-- ==== Sys2Proof/Word.lean ====
section
/-! DEFINITION. The byte of the serial link, and the greatest value of an unsigned 32-bit time. -/

namespace Sys2Proof

/-- One byte as sent on RXD or TXD (R197). -/
abbrev Byte := BitVec 8

/-- The greatest UTC second and the greatest unsigned 32-bit quantity (00_scope.md, Time). -/
abbrev maxU32 : Nat := 4294967295

end Sys2Proof
end

