-- ==== Sys2Proof/Syntax.lean ====
section
/-! DEFINITION. The commands of the 2T40: one constructor per row of spec/opcode_table.json.
A request row carries the tag and the body bytes of its frame; the events carry the booking handle or the tuner
they concern. -/

namespace Sys2Proof

/-- The two tuners (00_scope.md, Identifiers and indices). -/
inductive TunerId where
  | a
  | b
  deriving DecidableEq, Repr

/-- A frame's tag, kind and body, as R199 collects them between the length and the check bytes. -/
structure Frame where
  tag : Byte
  kind : Byte
  body : List Byte
  deriving DecidableEq, Repr

/-- The commands. Each is one whole, indivisible step of the part (95_what_each_step_holds.md). -/
inductive Instr where
  /-- IDENTIFY (R206). -/
  | identify (tag : Byte) (body : List Byte)
  /-- RESTART (R211). -/
  | restart (tag : Byte) (body : List Byte)
  /-- SET_SETTING (R209). -/
  | setSetting (tag : Byte) (body : List Byte)
  /-- SET_LINK_RATE (R197). -/
  | setLinkRate (tag : Byte) (body : List Byte)
  /-- SET_LINK_PARITY (R197). -/
  | setLinkParity (tag : Byte) (body : List Byte)
  /-- SET_RX_TRIGGER (R201). -/
  | setRxTrigger (tag : Byte) (body : List Byte)
  /-- SET_FEED_MODE (R106). -/
  | setFeedMode (tag : Byte) (body : List Byte)
  /-- SET_LIVE_RANK (R107). -/
  | setLiveRank (tag : Byte) (body : List Byte)
  /-- SET_PURGE_AGE (R63). -/
  | setPurgeAge (tag : Byte) (body : List Byte)
  /-- SET_ACCURATE_SLACK (R132). -/
  | setAccurateSlack (tag : Byte) (body : List Byte)
  /-- SET_RUN_HOLD (R129). -/
  | setRunHold (tag : Byte) (body : List Byte)
  /-- SET_LOSS_HOLD (R141). -/
  | setLossHold (tag : Byte) (body : List Byte)
  /-- SET_WAKE_MODE (R170). -/
  | setWakeMode (tag : Byte) (body : List Byte)
  /-- SET_WAKE_LEAD (R170). -/
  | setWakeLead (tag : Byte) (body : List Byte)
  /-- SET_WAKE_TIMEOUT (R160). -/
  | setWakeTimeout (tag : Byte) (body : List Byte)
  /-- SET_SPACE_ALARM (R182). -/
  | setSpaceAlarm (tag : Byte) (body : List Byte)
  /-- SET_SPACE_FLOOR (R182). -/
  | setSpaceFloor (tag : Byte) (body : List Byte)
  /-- SET_SPACE_HORIZON (R182). -/
  | setSpaceHorizon (tag : Byte) (body : List Byte)
  /-- SET_DEFAULT_RATE (R182). -/
  | setDefaultRate (tag : Byte) (body : List Byte)
  /-- SET_NOTICE_MASK (R189). -/
  | setNoticeMask (tag : Byte) (body : List Byte)
  /-- GET_SETTING (R210). -/
  | getSetting (tag : Byte) (body : List Byte)
  /-- LINK_STATS (R208). -/
  | linkStats (tag : Byte) (body : List Byte)
  /-- ECHO (R207). -/
  | echo (tag : Byte) (body : List Byte)
  /-- TIME_REPORT (R5). -/
  | timeReport (tag : Byte) (body : List Byte)
  /-- ZONE_REPORT (R13). -/
  | zoneReport (tag : Byte) (body : List Byte)
  /-- QUERY_TIME (R12). -/
  | queryTime (tag : Byte) (body : List Byte)
  /-- MUX_LOAD (R21). -/
  | muxLoad (tag : Byte) (body : List Byte)
  /-- SERVICE_LOAD (R22). -/
  | serviceLoad (tag : Byte) (body : List Byte)
  /-- MUX_DROP (R24). -/
  | muxDrop (tag : Byte) (body : List Byte)
  /-- SERVICE_DROP (R25). -/
  | serviceDrop (tag : Byte) (body : List Byte)
  /-- GUIDE_BATCH (R30). -/
  | guideBatch (tag : Byte) (body : List Byte)
  /-- GUIDE_DROP (R34). -/
  | guideDrop (tag : Byte) (body : List Byte)
  /-- QUERY_EVENT (R27). -/
  | queryEvent (tag : Byte) (body : List Byte)
  /-- BOOK_EVENT (R54). -/
  | bookEvent (tag : Byte) (body : List Byte)
  /-- BOOK_TIME (R56). -/
  | bookTime (tag : Byte) (body : List Byte)
  /-- AMEND (R57). -/
  | amend (tag : Byte) (body : List Byte)
  /-- CANCEL (R59). -/
  | cancel (tag : Byte) (body : List Byte)
  /-- PURGE (R62). -/
  | purge (tag : Byte) (body : List Byte)
  /-- QUERY_BOOKING (R60). -/
  | queryBooking (tag : Byte) (body : List Byte)
  /-- LIST_BOOKINGS (R61). -/
  | listBookings (tag : Byte) (body : List Byte)
  /-- LINK_SERIES (R68). -/
  | linkSeries (tag : Byte) (body : List Byte)
  /-- LINK_SLOT (R69). -/
  | linkSlot (tag : Byte) (body : List Byte)
  /-- UNLINK (R81). -/
  | unlink (tag : Byte) (body : List Byte)
  /-- QUERY_LINK (R82). -/
  | queryLink (tag : Byte) (body : List Byte)
  /-- QUERY_PLAN (R108). -/
  | queryPlan (tag : Byte) (body : List Byte)
  /-- QUERY_CLASHES (R109). -/
  | queryClashes (tag : Byte) (body : List Byte)
  /-- LIVE_CLAIM (R155). -/
  | liveClaim (tag : Byte) (body : List Byte)
  /-- LIVE_RELEASE (R156). -/
  | liveRelease (tag : Byte) (body : List Byte)
  /-- CLEAR_FAULT (R151). -/
  | clearFault (tag : Byte) (body : List Byte)
  /-- QUERY_TUNER (R154). -/
  | queryTuner (tag : Byte) (body : List Byte)
  /-- RUN_STATUS (R128). -/
  | runStatus (tag : Byte) (body : List Byte)
  /-- BEGUN (R123). -/
  | begun (tag : Byte) (body : List Byte)
  /-- ENDED (R124). -/
  | ended (tag : Byte) (body : List Byte)
  /-- REFUSED (R125). -/
  | refusedReport (tag : Byte) (body : List Byte)
  /-- FAULT_REPORT (R126). -/
  | faultReport (tag : Byte) (body : List Byte)
  /-- MOVED (R127). -/
  | moved (tag : Byte) (body : List Byte)
  /-- HOST_STATE_READY (R161). -/
  | hostStateReady (tag : Byte) (body : List Byte)
  /-- HOST_STATE_STANDBY (R162). -/
  | hostStateStandby (tag : Byte) (body : List Byte)
  /-- STORAGE_REPORT (R175). -/
  | storageReport (tag : Byte) (body : List Byte)
  /-- ACK_ALARM (R181). -/
  | ackAlarm (tag : Byte) (body : List Byte)
  /-- FETCH_NOTICES (R190). -/
  | fetchNotices (tag : Byte) (body : List Byte)
  /-- UNKNOWN_KIND (R204). -/
  | unknownKind (tag kind : Byte) (body : List Byte)
  /-- FRAME_ASSEMBLED (R199). -/
  | frameAssembled
  /-- GAP_MARK (R198). -/
  | gapMark
  /-- REPLY_SENT (R202). -/
  | replySent
  /-- RESETN_LOW (R196). -/
  | resetnLow
  /-- RESETN_RELEASE (R196). -/
  | resetnRelease
  /-- SECOND_END (R2). -/
  | secondEnd
  /-- NEXT_CHANGE_TAKEN (R14). -/
  | nextChangeTaken
  /-- LOCAL_DAY_START (R17). -/
  | localDayStart
  /-- EFFECTIVE_START_REACHED (R116). -/
  | effectiveStartReached (handle : Nat)
  /-- PADDED_END_UNPLACED (R52). -/
  | paddedEndUnplaced (handle : Nat)
  /-- PADDED_END_DUE (R119). -/
  | paddedEndDue (handle : Nat)
  /-- UNDELIVERED_START_TIMEOUT (R119). -/
  | undeliveredStartTimeout (handle : Nat)
  /-- EFFECTIVE_END_REACHED (R131). -/
  | effectiveEndReached (handle : Nat)
  /-- ACCURATE_SLACK_END (R132). -/
  | accurateSlackEnd (handle : Nat)
  /-- PURGE_AGE_REACHED (R63). -/
  | purgeAgeReached (handle : Nat)
  /-- YIELD_TIME_REACHED (R102). -/
  | yieldTimeReached
  /-- WAKE_INSTANT_REACHED (R166). -/
  | wakeInstantReached
  /-- START_TIMEOUT (R118). -/
  | startTimeout (handle : Nat)
  /-- STOP_TIMEOUT (R120). -/
  | stopTimeout (handle : Nat)
  /-- MOVE_TIMEOUT (R136). -/
  | moveTimeout (handle : Nat)
  /-- HOLD_COMPLETES (R129). -/
  | holdCompletes (handle : Nat)
  /-- GRACE_COUNT_COMPLETE (R144). -/
  | graceCountComplete (tuner : TunerId)
  /-- LOSS_COUNT_COMPLETE (R145). -/
  | lossCountComplete (tuner : TunerId)
  /-- REGAIN_COUNT_COMPLETE (R146). -/
  | regainCountComplete (tuner : TunerId)
  /-- FAILOVER_TEST (R135). -/
  | failoverTest (handle : Nat)
  /-- ATTEMPT_COUNT_COMPLETE (R167). -/
  | attemptCountComplete
  /-- PAUSE_COUNT_COMPLETE (R167). -/
  | pauseCountComplete
  /-- LOCK_RISE (R146). -/
  | lockRise (tuner : TunerId)
  /-- LOCK_FALL (R145). -/
  | lockFall (tuner : TunerId)
  /-- FAULT_LINE_RISE (R149). -/
  | faultLineRise (tuner : TunerId)
  /-- FAULT_LINE_FALL (R149). -/
  | faultLineFall (tuner : TunerId)
  /-- PASS_END (R89). -/
  | passEnd
  /-- BYTE_RECEIVED (R198). -/
  | byteReceived (data : Byte) (parityBit stopBit underOld : Bool)
  /-- CRYSTAL_TICK (R2). -/
  | crystalTick
  deriving DecidableEq, Repr

end Sys2Proof
end

