-- ==== Sys2Proof/Config.lean ====
section
/-! DEFINITION. What the part fixes: capacities (R206), request kind codes (R213) and setting item codes; and the free values: what a
read of a free entry of the Catalogue gives (log 64). -/

namespace Sys2Proof.Config

/-- Booking records (R41). -/
def maxBookings : Nat := 128
/-- Links (R66). -/
def maxLinks : Nat := 48
/-- Guide events (R26). -/
def maxEvents : Nat := 4096
/-- Service entries (R20). -/
def maxServices : Nat := 512
/-- Multiplex entries (R20). -/
def maxMuxes : Nat := 128
/-- Queued notices (R184). -/
def maxNotices : Nat := 48
/-- Recordings one tuner can carry at once (R93). -/
def recordSlots : Nat := 3
/-- Tuners. -/
def tuners : Nat := 2
/-- Alternatives in one booking record (R42). -/
def maxAlternatives : Nat := 4
/-- Episode keys in one link's history (R77). -/
def maxHistory : Nat := 24
/-- Byte entries of the receive FIFO (R196). -/
def fifoSize : Nat := 64
/-- Frames in the request queue (R202). -/
def maxRequests : Nat := 2
/-- The greatest body length of a frame (R199). -/
def maxBody : Nat := 240
/-- Ticks of the receive gap timer (R198). -/
def gapTicks : Nat := 328
/-- Seconds of grace of a tuner in Tuning (R143). -/
def graceSeconds : Nat := 10
/-- Seconds of the pause between two wake attempts (R167). -/
def pauseSeconds : Nat := 2
/-- Seconds within which a running-status report counts at opening (R116). -/
def reportSeconds : Nat := 600
/-- The start byte of a frame (R199). -/
def startByte : Byte := 0xC3

/-- The multiplex index that a free service index is read with: any (R20; log 64). -/
opaque freeMux (service : Nat) : Fin 128
/-- The rate that a free service index is read with: any (R20; log 64). -/
opaque freeRate (service : Nat) : Fin 40001
/-- The feed quadrant that a free multiplex index is read with: any (R20; log 64). -/
opaque freeQuadrant (mux : Nat) : Fin 4

/-- The request kinds with their codes (R213). -/
def kindIdentify : Byte := 0x01
def kindRestart : Byte := 0x02
def kindSetSetting : Byte := 0x03
def kindGetSetting : Byte := 0x04
def kindLinkStats : Byte := 0x05
def kindEcho : Byte := 0x06
def kindTimeReport : Byte := 0x10
def kindZoneReport : Byte := 0x11
def kindQueryTime : Byte := 0x12
def kindMuxLoad : Byte := 0x18
def kindServiceLoad : Byte := 0x19
def kindMuxDrop : Byte := 0x1A
def kindServiceDrop : Byte := 0x1B
def kindGuideBatch : Byte := 0x20
def kindGuideDrop : Byte := 0x21
def kindQueryEvent : Byte := 0x22
def kindBookEvent : Byte := 0x28
def kindBookTime : Byte := 0x29
def kindAmend : Byte := 0x2A
def kindCancel : Byte := 0x2B
def kindPurge : Byte := 0x2C
def kindQueryBooking : Byte := 0x2D
def kindListBookings : Byte := 0x2E
def kindLinkSeries : Byte := 0x30
def kindLinkSlot : Byte := 0x31
def kindUnlink : Byte := 0x32
def kindQueryLink : Byte := 0x33
def kindQueryPlan : Byte := 0x38
def kindQueryClashes : Byte := 0x39
def kindLiveClaim : Byte := 0x40
def kindLiveRelease : Byte := 0x41
def kindClearFault : Byte := 0x42
def kindQueryTuner : Byte := 0x43
def kindRunStatus : Byte := 0x48
def kindRecordReport : Byte := 0x49
def kindHostState : Byte := 0x50
def kindStorageReport : Byte := 0x54
def kindAckAlarm : Byte := 0x55
def kindFetchNotices : Byte := 0x58

/-- Every code the kind table of R213 gives. -/
def kinds : List Byte :=
  [kindIdentify, kindRestart, kindSetSetting, kindGetSetting, kindLinkStats, kindEcho,
   kindTimeReport, kindZoneReport, kindQueryTime, kindMuxLoad, kindServiceLoad, kindMuxDrop, kindServiceDrop,
   kindGuideBatch, kindGuideDrop, kindQueryEvent, kindBookEvent, kindBookTime, kindAmend, kindCancel,
   kindPurge, kindQueryBooking, kindListBookings, kindLinkSeries, kindLinkSlot, kindUnlink, kindQueryLink,
   kindQueryPlan, kindQueryClashes, kindLiveClaim, kindLiveRelease, kindClearFault, kindQueryTuner,
   kindRunStatus, kindRecordReport, kindHostState, kindStorageReport, kindAckAlarm, kindFetchNotices]

/-- The settings, in the order of their item codes 1 to 21 (11_the_message_link.md, Settings). -/
inductive Item where
  | linkRate | linkParity | rxTrigger | prePadDefault | postPadDefault | purgeAge | feedMode
  | liveRank | orderTimeout | runHold | accurateSlack | lossHold | gapLimit | wakeMode
  | wakeLead | wakeTimeout | spaceFloor | spaceHorizon | spaceAlarm | defaultRate | noticeMask
  deriving DecidableEq, Repr

/-- The item an item code names (R209). -/
def itemOf : Nat → Option Item
  | 1 => some .linkRate | 2 => some .linkParity | 3 => some .rxTrigger | 4 => some .prePadDefault
  | 5 => some .postPadDefault | 6 => some .purgeAge | 7 => some .feedMode | 8 => some .liveRank
  | 9 => some .orderTimeout | 10 => some .runHold | 11 => some .accurateSlack | 12 => some .lossHold
  | 13 => some .gapLimit | 14 => some .wakeMode | 15 => some .wakeLead | 16 => some .wakeTimeout
  | 17 => some .spaceFloor | 18 => some .spaceHorizon | 19 => some .spaceAlarm | 20 => some .defaultRate
  | 21 => some .noticeMask
  | _ => none

/-- The code of an item. -/
def Item.code : Item → Nat
  | .linkRate => 1 | .linkParity => 2 | .rxTrigger => 3 | .prePadDefault => 4
  | .postPadDefault => 5 | .purgeAge => 6 | .feedMode => 7 | .liveRank => 8
  | .orderTimeout => 9 | .runHold => 10 | .accurateSlack => 11 | .lossHold => 12
  | .gapLimit => 13 | .wakeMode => 14 | .wakeLead => 15 | .wakeTimeout => 16
  | .spaceFloor => 17 | .spaceHorizon => 18 | .spaceAlarm => 19 | .defaultRate => 20
  | .noticeMask => 21

end Sys2Proof.Config
end

