-- ==== Sys2Proof/WellFormed.lean ====
section
/-! DEFINITION. Which commands are well formed: a body that fits a frame (R199), a body that selects the row it is given
to where several rows share one kind code (R209, R122, R161, R162), a handle in range (00_scope.md). -/

namespace Sys2Proof

/-- A body of at most 240 bytes (R199). -/
def bodyFits (body : List Byte) : Bool := decide (body.length ≤ Config.maxBody)

/-- A booking handle, 1 to 65535 (00_scope.md, Identifiers and indices). -/
def handleFits (handle : Nat) : Bool := decide (1 ≤ handle) && decide (handle ≤ 65535)

/-- The item code of a SetSetting body of 5 bytes (R209); 0, which names no item, for every other length. -/
def settingCode (body : List Byte) : Nat :=
  match body with
  | [item, _, _, _, _] => item.toNat
  | _ => 0

/-- The report kind of a RecordReport body of 4 bytes (R215); 0 for every other length. -/
def reportCode (body : List Byte) : Nat :=
  match body with
  | [_, _, kind, _] => kind.toNat
  | _ => 0

/-- The form of a HostState body of 2 bytes (R215); 0 for every other length. -/
def formCode (body : List Byte) : Nat :=
  match body with
  | [form, _] => form.toNat
  | _ => 0

/-- The item codes that have a row of their own in the table; SET_SETTING takes every other code. -/
def ownRowItems : List Nat := [1, 2, 3, 6, 7, 8, 10, 11, 12, 14, 15, 16, 17, 18, 19, 20, 21]

/-- The checks a command must pass to be the row it is given as. -/
def Instr.wellFormed : Instr → Bool
  | .identify _ body => bodyFits body
  | .restart _ body => bodyFits body
  | .setSetting _ body => bodyFits body && !(ownRowItems.contains (settingCode body))
  | .setLinkRate _ body => bodyFits body && settingCode body == 1
  | .setLinkParity _ body => bodyFits body && settingCode body == 2
  | .setRxTrigger _ body => bodyFits body && settingCode body == 3
  | .setFeedMode _ body => bodyFits body && settingCode body == 7
  | .setLiveRank _ body => bodyFits body && settingCode body == 8
  | .setPurgeAge _ body => bodyFits body && settingCode body == 6
  | .setAccurateSlack _ body => bodyFits body && settingCode body == 11
  | .setRunHold _ body => bodyFits body && settingCode body == 10
  | .setLossHold _ body => bodyFits body && settingCode body == 12
  | .setWakeMode _ body => bodyFits body && settingCode body == 14
  | .setWakeLead _ body => bodyFits body && settingCode body == 15
  | .setWakeTimeout _ body => bodyFits body && settingCode body == 16
  | .setSpaceAlarm _ body => bodyFits body && settingCode body == 19
  | .setSpaceFloor _ body => bodyFits body && settingCode body == 17
  | .setSpaceHorizon _ body => bodyFits body && settingCode body == 18
  | .setDefaultRate _ body => bodyFits body && settingCode body == 20
  | .setNoticeMask _ body => bodyFits body && settingCode body == 21
  | .getSetting _ body => bodyFits body
  | .linkStats _ body => bodyFits body
  | .echo _ body => bodyFits body
  | .timeReport _ body => bodyFits body
  | .zoneReport _ body => bodyFits body
  | .queryTime _ body => bodyFits body
  | .muxLoad _ body => bodyFits body
  | .serviceLoad _ body => bodyFits body
  | .muxDrop _ body => bodyFits body
  | .serviceDrop _ body => bodyFits body
  | .guideBatch _ body => bodyFits body
  | .guideDrop _ body => bodyFits body
  | .queryEvent _ body => bodyFits body
  | .bookEvent _ body => bodyFits body
  | .bookTime _ body => bodyFits body
  | .amend _ body => bodyFits body
  | .cancel _ body => bodyFits body
  | .purge _ body => bodyFits body
  | .queryBooking _ body => bodyFits body
  | .listBookings _ body => bodyFits body
  | .linkSeries _ body => bodyFits body
  | .linkSlot _ body => bodyFits body
  | .unlink _ body => bodyFits body
  | .queryLink _ body => bodyFits body
  | .queryPlan _ body => bodyFits body
  | .queryClashes _ body => bodyFits body
  | .liveClaim _ body => bodyFits body
  | .liveRelease _ body => bodyFits body
  | .clearFault _ body => bodyFits body
  | .queryTuner _ body => bodyFits body
  | .runStatus _ body => bodyFits body
  | .begun _ body => bodyFits body && !([1, 2, 3, 4].contains (reportCode body))
  | .ended _ body => bodyFits body && reportCode body == 1
  | .refusedReport _ body => bodyFits body && reportCode body == 2
  | .faultReport _ body => bodyFits body && reportCode body == 3
  | .moved _ body => bodyFits body && reportCode body == 4
  | .hostStateReady _ body => bodyFits body && formCode body != 1
  | .hostStateStandby _ body => bodyFits body && formCode body == 1
  | .storageReport _ body => bodyFits body
  | .ackAlarm _ body => bodyFits body
  | .fetchNotices _ body => bodyFits body
  | .unknownKind _ kind body => bodyFits body && !(Config.kinds.contains kind)
  | .frameAssembled => true
  | .gapMark => true
  | .replySent => true
  | .resetnLow => true
  | .resetnRelease => true
  | .secondEnd => true
  | .nextChangeTaken => true
  | .localDayStart => true
  | .effectiveStartReached handle => handleFits handle
  | .paddedEndUnplaced handle => handleFits handle
  | .paddedEndDue handle => handleFits handle
  | .undeliveredStartTimeout handle => handleFits handle
  | .effectiveEndReached handle => handleFits handle
  | .accurateSlackEnd handle => handleFits handle
  | .purgeAgeReached handle => handleFits handle
  | .yieldTimeReached => true
  | .wakeInstantReached => true
  | .startTimeout handle => handleFits handle
  | .stopTimeout handle => handleFits handle
  | .moveTimeout handle => handleFits handle
  | .holdCompletes handle => handleFits handle
  | .graceCountComplete _ => true
  | .lossCountComplete _ => true
  | .regainCountComplete _ => true
  | .failoverTest handle => handleFits handle
  | .attemptCountComplete => true
  | .pauseCountComplete => true
  | .lockRise _ => true
  | .lockFall _ => true
  | .faultLineRise _ => true
  | .faultLineFall _ => true
  | .passEnd => true
  | .byteReceived _ _ _ _ => true
  | .crystalTick => true

end Sys2Proof
end

