-- ==== Sys2Proof/Decode.lean ====
section
/-! DEFINITION. From frames to request rows and back. The table gives no row any bits, so decodeTableWord answers none;
what a frame's kind code and body select (R204, R213, R215) is requestOf, and frameOf is the frame a request row stands for. -/

namespace Sys2Proof

/-- The SetSetting row a body selects by its item code (R209). -/
def settingInstr (tag : Byte) (body : List Byte) : Instr :=
  match settingCode body with
  | 1 => .setLinkRate tag body
  | 2 => .setLinkParity tag body
  | 3 => .setRxTrigger tag body
  | 6 => .setPurgeAge tag body
  | 7 => .setFeedMode tag body
  | 8 => .setLiveRank tag body
  | 10 => .setRunHold tag body
  | 11 => .setAccurateSlack tag body
  | 12 => .setLossHold tag body
  | 14 => .setWakeMode tag body
  | 15 => .setWakeLead tag body
  | 16 => .setWakeTimeout tag body
  | 17 => .setSpaceFloor tag body
  | 18 => .setSpaceHorizon tag body
  | 19 => .setSpaceAlarm tag body
  | 20 => .setDefaultRate tag body
  | 21 => .setNoticeMask tag body
  | _ => .setSetting tag body

/-- The RecordReport row a body selects by its report kind (R122, R215). -/
def reportInstr (tag : Byte) (body : List Byte) : Instr :=
  match reportCode body with
  | 1 => .ended tag body
  | 2 => .refusedReport tag body
  | 3 => .faultReport tag body
  | 4 => .moved tag body
  | _ => .begun tag body

/-- The HostState row a body selects by its form (R161, R162). -/
def hostStateInstr (tag : Byte) (body : List Byte) : Instr :=
  if formCode body = 1 then .hostStateStandby tag body else .hostStateReady tag body

/-- The request row a frame is (R204 step 1, R213). -/
def requestOf (f : Frame) : Instr :=
  match f.kind.toNat with
  | 0x01 => .identify f.tag f.body
  | 0x02 => .restart f.tag f.body
  | 0x03 => settingInstr f.tag f.body
  | 0x04 => .getSetting f.tag f.body
  | 0x05 => .linkStats f.tag f.body
  | 0x06 => .echo f.tag f.body
  | 0x10 => .timeReport f.tag f.body
  | 0x11 => .zoneReport f.tag f.body
  | 0x12 => .queryTime f.tag f.body
  | 0x18 => .muxLoad f.tag f.body
  | 0x19 => .serviceLoad f.tag f.body
  | 0x1A => .muxDrop f.tag f.body
  | 0x1B => .serviceDrop f.tag f.body
  | 0x20 => .guideBatch f.tag f.body
  | 0x21 => .guideDrop f.tag f.body
  | 0x22 => .queryEvent f.tag f.body
  | 0x28 => .bookEvent f.tag f.body
  | 0x29 => .bookTime f.tag f.body
  | 0x2A => .amend f.tag f.body
  | 0x2B => .cancel f.tag f.body
  | 0x2C => .purge f.tag f.body
  | 0x2D => .queryBooking f.tag f.body
  | 0x2E => .listBookings f.tag f.body
  | 0x30 => .linkSeries f.tag f.body
  | 0x31 => .linkSlot f.tag f.body
  | 0x32 => .unlink f.tag f.body
  | 0x33 => .queryLink f.tag f.body
  | 0x38 => .queryPlan f.tag f.body
  | 0x39 => .queryClashes f.tag f.body
  | 0x40 => .liveClaim f.tag f.body
  | 0x41 => .liveRelease f.tag f.body
  | 0x42 => .clearFault f.tag f.body
  | 0x43 => .queryTuner f.tag f.body
  | 0x48 => .runStatus f.tag f.body
  | 0x49 => reportInstr f.tag f.body
  | 0x50 => hostStateInstr f.tag f.body
  | 0x54 => .storageReport f.tag f.body
  | 0x55 => .ackAlarm f.tag f.body
  | 0x58 => .fetchNotices f.tag f.body
  | _ => .unknownKind f.tag f.kind f.body

/-- The frame a request row stands for; none for the events. -/
def frameOf : Instr → Option Frame
  | .identify tag body => some ⟨tag, Config.kindIdentify, body⟩
  | .restart tag body => some ⟨tag, Config.kindRestart, body⟩
  | .setSetting tag body => some ⟨tag, Config.kindSetSetting, body⟩
  | .setLinkRate tag body => some ⟨tag, Config.kindSetSetting, body⟩
  | .setLinkParity tag body => some ⟨tag, Config.kindSetSetting, body⟩
  | .setRxTrigger tag body => some ⟨tag, Config.kindSetSetting, body⟩
  | .setFeedMode tag body => some ⟨tag, Config.kindSetSetting, body⟩
  | .setLiveRank tag body => some ⟨tag, Config.kindSetSetting, body⟩
  | .setPurgeAge tag body => some ⟨tag, Config.kindSetSetting, body⟩
  | .setAccurateSlack tag body => some ⟨tag, Config.kindSetSetting, body⟩
  | .setRunHold tag body => some ⟨tag, Config.kindSetSetting, body⟩
  | .setLossHold tag body => some ⟨tag, Config.kindSetSetting, body⟩
  | .setWakeMode tag body => some ⟨tag, Config.kindSetSetting, body⟩
  | .setWakeLead tag body => some ⟨tag, Config.kindSetSetting, body⟩
  | .setWakeTimeout tag body => some ⟨tag, Config.kindSetSetting, body⟩
  | .setSpaceAlarm tag body => some ⟨tag, Config.kindSetSetting, body⟩
  | .setSpaceFloor tag body => some ⟨tag, Config.kindSetSetting, body⟩
  | .setSpaceHorizon tag body => some ⟨tag, Config.kindSetSetting, body⟩
  | .setDefaultRate tag body => some ⟨tag, Config.kindSetSetting, body⟩
  | .setNoticeMask tag body => some ⟨tag, Config.kindSetSetting, body⟩
  | .getSetting tag body => some ⟨tag, Config.kindGetSetting, body⟩
  | .linkStats tag body => some ⟨tag, Config.kindLinkStats, body⟩
  | .echo tag body => some ⟨tag, Config.kindEcho, body⟩
  | .timeReport tag body => some ⟨tag, Config.kindTimeReport, body⟩
  | .zoneReport tag body => some ⟨tag, Config.kindZoneReport, body⟩
  | .queryTime tag body => some ⟨tag, Config.kindQueryTime, body⟩
  | .muxLoad tag body => some ⟨tag, Config.kindMuxLoad, body⟩
  | .serviceLoad tag body => some ⟨tag, Config.kindServiceLoad, body⟩
  | .muxDrop tag body => some ⟨tag, Config.kindMuxDrop, body⟩
  | .serviceDrop tag body => some ⟨tag, Config.kindServiceDrop, body⟩
  | .guideBatch tag body => some ⟨tag, Config.kindGuideBatch, body⟩
  | .guideDrop tag body => some ⟨tag, Config.kindGuideDrop, body⟩
  | .queryEvent tag body => some ⟨tag, Config.kindQueryEvent, body⟩
  | .bookEvent tag body => some ⟨tag, Config.kindBookEvent, body⟩
  | .bookTime tag body => some ⟨tag, Config.kindBookTime, body⟩
  | .amend tag body => some ⟨tag, Config.kindAmend, body⟩
  | .cancel tag body => some ⟨tag, Config.kindCancel, body⟩
  | .purge tag body => some ⟨tag, Config.kindPurge, body⟩
  | .queryBooking tag body => some ⟨tag, Config.kindQueryBooking, body⟩
  | .listBookings tag body => some ⟨tag, Config.kindListBookings, body⟩
  | .linkSeries tag body => some ⟨tag, Config.kindLinkSeries, body⟩
  | .linkSlot tag body => some ⟨tag, Config.kindLinkSlot, body⟩
  | .unlink tag body => some ⟨tag, Config.kindUnlink, body⟩
  | .queryLink tag body => some ⟨tag, Config.kindQueryLink, body⟩
  | .queryPlan tag body => some ⟨tag, Config.kindQueryPlan, body⟩
  | .queryClashes tag body => some ⟨tag, Config.kindQueryClashes, body⟩
  | .liveClaim tag body => some ⟨tag, Config.kindLiveClaim, body⟩
  | .liveRelease tag body => some ⟨tag, Config.kindLiveRelease, body⟩
  | .clearFault tag body => some ⟨tag, Config.kindClearFault, body⟩
  | .queryTuner tag body => some ⟨tag, Config.kindQueryTuner, body⟩
  | .runStatus tag body => some ⟨tag, Config.kindRunStatus, body⟩
  | .begun tag body => some ⟨tag, Config.kindRecordReport, body⟩
  | .ended tag body => some ⟨tag, Config.kindRecordReport, body⟩
  | .refusedReport tag body => some ⟨tag, Config.kindRecordReport, body⟩
  | .faultReport tag body => some ⟨tag, Config.kindRecordReport, body⟩
  | .moved tag body => some ⟨tag, Config.kindRecordReport, body⟩
  | .hostStateReady tag body => some ⟨tag, Config.kindHostState, body⟩
  | .hostStateStandby tag body => some ⟨tag, Config.kindHostState, body⟩
  | .storageReport tag body => some ⟨tag, Config.kindStorageReport, body⟩
  | .ackAlarm tag body => some ⟨tag, Config.kindAckAlarm, body⟩
  | .fetchNotices tag body => some ⟨tag, Config.kindFetchNotices, body⟩
  | .unknownKind tag kind body => some ⟨tag, kind, body⟩
  | .frameAssembled => none
  | .gapMark => none
  | .replySent => none
  | .resetnLow => none
  | .resetnRelease => none
  | .secondEnd => none
  | .nextChangeTaken => none
  | .localDayStart => none
  | .effectiveStartReached _ => none
  | .paddedEndUnplaced _ => none
  | .paddedEndDue _ => none
  | .undeliveredStartTimeout _ => none
  | .effectiveEndReached _ => none
  | .accurateSlackEnd _ => none
  | .purgeAgeReached _ => none
  | .yieldTimeReached => none
  | .wakeInstantReached => none
  | .startTimeout _ => none
  | .stopTimeout _ => none
  | .moveTimeout _ => none
  | .holdCompletes _ => none
  | .graceCountComplete _ => none
  | .lossCountComplete _ => none
  | .regainCountComplete _ => none
  | .failoverTest _ => none
  | .attemptCountComplete => none
  | .pauseCountComplete => none
  | .lockRise _ => none
  | .lockFall _ => none
  | .faultLineRise _ => none
  | .faultLineFall _ => none
  | .passEnd => none
  | .byteReceived _ _ _ _ => none
  | .crystalTick => none

/-- No row of spec/opcode_table.json gives any bits, so no word spells a command. -/
def decodeTableWord (_nbits _w : Nat) : Option Instr := none

end Sys2Proof
end

