-- ==== Sys2Proof/Machine/State.lean ====
section
/-! DEFINITION. The state of the 2T40, block by block (00_scope.md), as plain data, and the state after a power-on reset.
Times, durations, counts and indices are Nat (their bounds are those of the spec's tables); signed tick counts, zone
offsets and local days are Int. -/

namespace Sys2Proof.Machine

/-! ## Time Base (R1) -/

/-- The reference capture of the drift estimate (R1, R9). -/
structure Capture where
  b0 : Nat
  offset0 : Int
  applied : Int
  deriving DecidableEq, Repr

/-- The announced change of the zone offset (R1, R13). -/
structure NextChange where
  at_ : Nat
  offset : Int
  deriving DecidableEq, Repr

/-- The Time Base (R1). `hold` is the number of ticks the sub-second count still holds at 0 in a lengthened second (R2). -/
structure TimeBase where
  seconds : Nat
  sub : Nat
  hold : Nat
  clockSet : Bool
  trim : Int
  slew : Int
  capture : Option Capture
  zone : Int
  nextChange : Option NextChange
  lastDate : Option Int
  deriving DecidableEq, Repr

/-! ## Catalogue (R20) and Guide Store (R26) -/

/-- An occupied entry of the multiplex table (R20). -/
structure Mux where
  index : Nat
  id : Nat
  quadrant : Nat
  deriving DecidableEq, Repr

/-- An occupied entry of the service table (R20). -/
structure Service where
  index : Nat
  number : Nat
  mux : Nat
  rate : Nat
  deriving DecidableEq, Repr

/-- The two tables, each in ascending index (R20). -/
structure Catalogue where
  muxes : List Mux
  services : List Service
  deriving DecidableEq, Repr

/-- An entry of the event table (R26). -/
structure Event where
  service : Nat
  id : Nat
  start : Nat
  duration : Nat
  tag : Option Nat
  key : Option Nat
  capable : Bool
  deriving DecidableEq, Repr

/-! ## Links (R67) -/

/-- The policy of a series link (R67). -/
inductive Policy where
  | newOnly
  | all
  deriving DecidableEq, Repr

/-- An occurrence list entry: local day and booking handle (R67). -/
structure Occurrence where
  day : Int
  handle : Nat
  deriving DecidableEq, Repr

/-- The series part or the slot part of a link (R67). `service = none` is Any. -/
inductive LinkPart where
  | series (tag : Nat) (service : Option Nat) (policy : Policy) (history : List Nat)
  | slot (service : Nat) (weekdays : BitVec 7) (minute duration : Nat) (occurrences : List Occurrence)
  deriving DecidableEq, Repr

/-- An occupied entry of the link table (R66, R67). -/
structure Link where
  index : Nat
  priority : Nat
  prePad : Nat
  postPad : Nat
  accurate : Bool
  starved : Bool
  part : LinkPart
  deriving DecidableEq, Repr

/-! ## Bookings (R42) -/

/-- Where a booking came from (R42). -/
inductive Origin where
  | event
  | time
  | series (link : Nat)
  | slot (link : Nat)
  deriving DecidableEq, Repr

/-- The lifecycle states (R46). -/
inductive Lifecycle where
  | pending | armed | due | recording | stopping | finished
  deriving DecidableEq, Repr

/-- Why a booking entered Stopping (R46). -/
inductive StopCause where
  | schedule | slack | overrun | cancel | standby
  deriving DecidableEq, Repr

/-- A set of conflict kinds (R45, R93). -/
structure Causes where
  slots : Bool
  multiplex : Bool
  quadrant : Bool
  fault : Bool
  live : Bool
  deriving DecidableEq, Repr

/-- The placement field (R45). -/
inductive Placement where
  | placed (tuner : TunerId) (start stop : Nat)
  | unplaced (causes : Causes)
  | none
  deriving DecidableEq, Repr

/-- The outcomes (R49). -/
inductive OutcomeKind where
  | completed | partially | missed | failed | cancelled
  deriving DecidableEq, Repr

/-- The reasons (R49), in the order of their codes. -/
inductive Reason where
  | scheduled | hostStop | unconfirmed | fault | clash | neverRan | hostAbsent | clockStep
  | guideMoved | noStart | refused | request | guideDrop | unlinked
  deriving DecidableEq, Repr

/-- An outcome with its reason (R49). -/
structure Verdict where
  kind : OutcomeKind
  reason : Reason
  deriving DecidableEq, Repr

/-- The flags of a booking (R50). -/
structure BookingFlags where
  orphan : Bool
  paddingTrimmed : Bool
  timedFallback : Bool
  lateStart : Bool
  moved : Bool
  resumed : Bool
  truncated : Bool
  stopUnconfirmed : Bool
  gaps : Bool
  deriving DecidableEq, Repr

/-- A guide event named by service index and event id (R26). -/
structure EventRef where
  service : Nat
  id : Nat
  deriving DecidableEq, Repr

/-- An alternative (R42). -/
structure Alternative where
  service : Nat
  id : Nat
  start : Nat
  stop : Nat
  deriving DecidableEq, Repr

/-- The broadcaster's running status (R128). -/
inductive RunStatus where
  | notRunning | startsSoon | running | paused
  deriving DecidableEq, Repr

/-- The report record of an accurate booking (R114). -/
structure Report where
  status : RunStatus
  time : Nat
  deriving DecidableEq, Repr

/-- A count of elapsed seconds whose length is a setting read at each mark (R129, R141, R160): the seconds counted, and whether a mark has
found them at the length. A count so completed waits for the command of its completion (log 30). -/
structure Count where
  seconds : Nat
  complete : Bool
  deriving DecidableEq, Repr

/-- A count begins at 0 (R129, R141, R160). -/
def Count.zero : Count := ⟨0, false⟩

/-- A running-status candidate (R129). -/
structure Candidate where
  status : RunStatus
  held : Count
  taken : Bool
  deriving DecidableEq, Repr

/-- The overrun state (R114, R131). -/
inductive Overrun where
  | none
  | opened (start stop : Nat)
  | full
  | truncated
  deriving DecidableEq, Repr

/-- A move target (R114, R135). -/
structure MoveTarget where
  tuner : TunerId
  stop : Nat
  deriving DecidableEq, Repr

/-- What the Order Unit holds for one booking (R114); it is dropped when the booking finishes (R121).
`endTaken` is the effective end whose reaching was already taken (R85; log 20). -/
structure OrderItems where
  report : Option Report
  candidate : Option Candidate
  runningAt : Option Nat
  notRunningAt : Option Nat
  firstAttempt : Bool
  stopAt : Option Nat
  overrun : Overrun
  inGap : Bool
  failover : Nat
  moveTarget : Option MoveTarget
  lateMove : Bool
  endTaken : Option Nat
  deriving DecidableEq, Repr

/-- A booking record (R42). `written` is the placement written by the last pass whose result stood for the booking (R105);
`late` is the late mark of its placement (R100). `replan` marks a record whose times were changed after its placement was
written: it is opened on the placement of the pass that follows (R36, R40, R57, R65, R83; log 38). -/
structure Booking where
  handle : Nat
  origin : Origin
  service : Nat
  main : Option EventRef
  tag : Option Nat
  key : Option Nat
  nominalStart : Nat
  nominalStop : Nat
  prePad : Nat
  postPad : Nat
  priority : Nat
  accurate : Bool
  alternatives : List Alternative
  state : Lifecycle
  stopCause : Option StopCause
  placement : Placement
  verdict : Option Verdict
  actualStart : Option Nat
  actualStop : Option Nat
  gapSeconds : Nat
  gapCount : Nat
  flags : BookingFlags
  finishedAt : Option Nat
  items : OrderItems
  written : Option Placement
  late : Bool
  replan : Bool
  deriving DecidableEq, Repr

/-- The Booking Table (R41): records in ascending handle, and the next-handle value. -/
structure BookingTable where
  records : List Booking
  next : Nat
  deriving DecidableEq, Repr

/-! ## Orders (R115) -/

/-- The order kinds (R115). -/
inductive OrderKind where
  | start | stop | move
  deriving DecidableEq, Repr

/-- An order record (R115). `onRunning` marks a Start issued when Running took effect (R117, R123). `elapsed` counts elapsed
seconds, since the issue while undelivered (R119) and since the delivery afterwards (R115); `limit` is OrderTimeout as it stood
at the delivery. -/
structure Order where
  kind : OrderKind
  handle : Nat
  tuner : Option TunerId
  service : Nat
  mux : Nat
  issued : Nat
  delivered : Bool
  attempt : Nat
  onRunning : Bool
  elapsed : Nat
  limit : Nat
  deriving DecidableEq, Repr

/-- The Order Unit's device-wide items (R114). `stepHold = some k`: the hold is set and clears at the k-th pass end from now
(R138). -/
structure OrderUnit where
  orders : List Order
  stepHold : Option Nat
  deriving DecidableEq, Repr

/-! ## Settings (11_the_message_link.md) -/

/-- How the tuners are fed (R84). -/
inductive FeedMode where
  | independent
  | loopThrough
  deriving DecidableEq, Repr

/-- The settings, one field per item of the settings table. -/
structure Settings where
  linkRate : Nat
  parityEven : Bool
  rxTrigger : Nat
  prePadDefault : Nat
  postPadDefault : Nat
  purgeAge : Nat
  feedMode : FeedMode
  liveRank : Nat
  orderTimeout : Nat
  runHold : Nat
  accurateSlack : Nat
  lossExtended : Bool
  gapLimit : Nat
  wakeOff : Bool
  wakeLead : Nat
  wakeTimeout : Nat
  spaceFloor : Nat
  spaceHorizon : Nat
  spaceAlarm : Bool
  defaultRate : Nat
  noticeMask : BitVec 7
  deriving DecidableEq, Repr

/-! ## Planner (R84) -/

/-- The three kinds of occupancy (R90). -/
inductive OccupancyKind where
  | booking | overrun | live
  deriving DecidableEq, Repr

/-- An occupancy: one item holding one tuner over one span for one multiplex (R90). `stop = none` is the live claim's open
span; `handle` is 0 for the live claim. -/
structure Occupancy where
  tuner : TunerId
  mux : Nat
  start : Nat
  stop : Option Nat
  kind : OccupancyKind
  handle : Nat
  deriving DecidableEq, Repr

/-- A record of the clash list (R104). -/
structure Clash where
  handle : Nat
  start : Nat
  stop : Nat
  causes : Causes
  blockers : List Nat
  deriving DecidableEq, Repr

/-- A Running pass: what it read at T₀ (R88), and what changed since (`changed`: the bookings whose result is discarded;
`liveChanged`: the live claim was made, replaced or released). -/
structure Pass where
  t0 : Nat
  bookings : List Booking
  muxes : List Mux
  services : List Service
  live : Option (Nat × TunerId)
  latchA : Bool
  latchB : Bool
  feedMode : FeedMode
  liveRank : Nat
  changed : List Nat
  liveChanged : Bool
  deriving DecidableEq, Repr

/-- The Planner (R84). `running = none` is Idle. `triggered` is the model's own: the pass trigger given by the command in
hand, turned into a pass or the re-pass flag at its end (R86; log 4). -/
structure Planner where
  plan : List Occupancy
  clashes : List Clash
  running : Option Pass
  repass : Bool
  lastT0 : Option Nat
  triggered : Bool
  deriving DecidableEq, Repr

/-! ## Tuner Monitor (R140) -/

/-- The tuner conditions (R140). -/
inductive Condition where
  | unused | tuning | locked | lost | faulted
  deriving DecidableEq, Repr

/-- What the Tuner Monitor holds for one tuner (R140). -/
structure Tuner where
  condition : Condition
  faultLatch : Bool
  changeLatch : Bool
  tuned : Option Nat
  grace : Option Nat
  loss : Option Count
  regain : Option Nat
  deriving DecidableEq, Repr

/-- A live placement as a pass hands it (R102, R140), with the multiplex it was made for (R147). -/
structure LivePlacement where
  tuner : TunerId
  mux : Nat
  start : Nat
  stop : Option Nat
  yieldAt : Option Nat
  deriving DecidableEq, Repr

/-- The live claim (R140). -/
structure LiveClaim where
  mux : Nat
  named : TunerId
  placement : Option LivePlacement
  deriving DecidableEq, Repr

/-- The Tuner Monitor (R140). `yieldTaken` is the yield time whose reaching was already taken (R102; log 20). -/
structure TunerMonitor where
  a : Tuner
  b : Tuner
  live : Option LiveClaim
  yieldTaken : Option Nat
  deriving DecidableEq, Repr

/-! ## Wake Unit (R160) -/

/-- The host states (R160); Waking(1) Asserting, Waking(1) Pausing and Waking(2) Asserting are three constructors. -/
inductive HostState where
  | up | down | waking1 | pausing1 | waking2 | abandoned
  deriving DecidableEq, Repr

/-- A due instant with its source handle (R165). -/
structure Due where
  at_ : Nat
  source : Nat
  deriving DecidableEq, Repr

/-- The Wake Unit (R160). -/
structure WakeUnit where
  host : HostState
  attempt : Option Count
  pause : Option Nat
  due : Option Due
  wakeAt : Option Nat
  abandon : List Nat
  failed : Nat
  deriving DecidableEq, Repr

/-! ## Storage Estimator (R174) -/

/-- The Storage Estimator (R174); `free = none` is unknown. -/
structure Estimator where
  free : Option Nat
  need : Nat
  counted : Nat
  low : Bool
  deriving DecidableEq, Repr

/-! ## Notices (R185) -/

/-- The notice classes, in mask order (R189). -/
inductive NoticeClass where
  | booking | clash | series | tuner | wake | time | storage
  deriving DecidableEq, Repr

/-- Why a tuner changed (R153). -/
inductive ChangeCause where
  | use | release | grace | loss | regain | retune | fault | clear
  deriving DecidableEq, Repr

/-- Why the zone offset changed (R15). -/
inductive ZoneCause where
  | report | scheduled
  deriving DecidableEq, Repr

/-- The payload of a BookingState notice (R185). `lastCauses` is the cause set of the last placement, for Missed (Clash). -/
structure BookingReport where
  state : Lifecycle
  placement : Placement
  verdict : Option Verdict
  lastCauses : Causes
  deriving DecidableEq, Repr

/-- Kind, subject and payload of a notice (R185). -/
inductive NoticeBody where
  | bookingState (handle : Nat) (report : BookingReport)
  | clashFound (handle : Nat) (causes : Causes)
  | clashCleared (handle : Nat) (tuner : TunerId) (start stop : Nat)
  | seriesBooked (link handle : Nat)
  | seriesFull (link : Nat)
  | tunerChange (tuner : TunerId) (condition : Condition) (latch : Bool) (tuned : Option Nat) (cause : ChangeCause)
  | liveYield (tuner : TunerId) (mux : Nat) (yieldAt : Option Nat)
  | wakeFailed (attempt due source : Nat)
  | clockStepped (old new : Nat)
  | zoneChanged (old new : Int) (cause : ZoneCause)
  | spaceLow (free need floor counted : Nat)
  deriving DecidableEq, Repr

/-- A notice record (R185). -/
structure Notice where
  body : NoticeBody
  time : Nat
  deriving DecidableEq, Repr

/-- The Notice Queue (R184); NoticeMask is a setting. -/
structure NoticeQueue where
  queue : List Notice
  lost : Bool
  deriving DecidableEq, Repr

/-! ## Replies (R204) -/

/-- The result codes (R204). -/
inductive Result where
  | ok | clamped | badLength | unknownKind | badField | noSpace | notFound | duplicate
  | stateMismatch | inUse | busy | tooLate | past | truncated
  deriving DecidableEq, Repr

/-- The five link counters (R196, R208). -/
structure Counters where
  badCheck : Nat
  byteError : Nat
  timeout : Nat
  overrun : Nat
  queueFull : Nat
  deriving DecidableEq, Repr

/-- What a TimeReport did (R10). -/
inductive TimeAction where
  | stepped | slewed | slewedWithDrift
  deriving DecidableEq, Repr

/-- Stored values a Clamped reply carries (R55). -/
structure Stored where
  priority : Nat
  prePad : Nat
  postPad : Nat
  accurate : Bool
  deriving DecidableEq, Repr

/-- What QueryTuner reads of one tuner (R154). -/
structure TunerView where
  tuner : Tuner
  inUse : Bool
  lockLine : Bool
  faultLine : Bool
  deriving DecidableEq, Repr

/-- What a reply carries after its result code, request by request. -/
inductive ReplyData where
  | code
  | identify
  | echo (body : List Byte)
  | setting (item value : Nat)
  | counters (c : Counters)
  | time (action : TimeAction) (offset : Int) (seconds : Nat) (trim slew : Int) (limited : Bool) (oldSeconds : Option Nat)
  | zone (offset : Int) (next : Option NextChange)
  | clock (seconds sub : Nat) (trim slew : Int) (clockSet : Bool) (zone : Int) (next : Option NextChange)
  | index (index : Nat)
  | count (n : Nat)
  | batch (removed updated inserted skipped notStored : Nat)
  | event (event : Event) (handle : Nat)
  | placement (handle : Nat) (state : Lifecycle) (placement : Placement) (stored : Option Stored)
  | lifecycle (state : Lifecycle)
  | record (booking : Booking)
  | listing (entries : List (Nat × Lifecycle)) (more : Bool)
  | linkMade (index created : Nat) (starved : Bool) (stored : Option Stored)
  | unlinked (cancelled kept : Nat)
  | link (link : Link) (unfinished : Nat)
  | plan (t0 : Option Nat) (running : Bool) (total : Nat) (entries : List Occupancy) (more : Bool)
  | clashes (t0 : Option Nat) (total : Nat) (records : List Clash) (more : Bool)
  | livePlacement (placement : Option LivePlacement)
  | liveReleased (noneHeld : Bool)
  | faultCleared (condition : Condition) (latch : Bool)
  | tuners (a b : TunerView) (live : Option LiveClaim)
  | report (state : Lifecycle) (verdict : Option Verdict)
  | ready (before : HostState) (failed : Nat)
  | busy (blockers handle : Nat) (earliest : Option Nat)
  | standby (before after : HostState) (forced : Nat) (due : Option Due) (wakeAt : Option Nat)
  | storage (free : Option Nat) (need counted floor : Nat) (low : Bool) (condition : Option Bool)
  | acknowledged (low : Bool) (need counted : Nat) (free : Option Nat)
  | fetched (orders : List Order) (notices : List Notice) (lost more : Bool)
  | restarted (resumed unconfirmed : Nat)
  | duplicate (existing : Nat)
  deriving DecidableEq, Repr

/-- A reply: the request's tag and kind, the result, and the values its rule gives (R204). -/
structure Reply where
  tag : Byte
  kind : Byte
  result : Result
  data : ReplyData
  deriving DecidableEq, Repr

/-- A reply as the owner returns it. Most are complete; some are sent at once whatever pass is asked for (`prompt`: R122, R164;
log 14); the others are completed at the end of the pass they wait for, from the placement that pass wrote (R54, R56, R57, R155,
R164). -/
inductive ReplyPlan where
  | done (result : Result) (data : ReplyData)
  | prompt (result : Result) (data : ReplyData)
  | booked (result : Result) (handle : Nat) (stored : Option Stored)
  | live
  | standby (before : HostState) (forced : Nat)
  deriving DecidableEq, Repr

/-! ## Link Interface (R196) -/

/-- Entries and marks of the receive FIFO (R198). -/
inductive FifoItem where
  | byte (data : Byte) (bad : Bool)
  | gap
  | overrun
  deriving DecidableEq, Repr

/-- The frame assembler (R199): Receiving holds the bytes taken after the start byte, in order. -/
inductive Assembler where
  | hunting
  | receiving (bytes : List Byte)
  deriving DecidableEq, Repr

/-- The service states (R202). Holding waits for `passes` pass ends (R87). -/
inductive ServicePhase where
  | idle
  | applying
  | holding (passes : Nat) (plan : ReplyPlan)
  | sending (reply : Reply)
  deriving DecidableEq, Repr

/-- Rate and parity of the line (R197). -/
structure LineSettings where
  rate : Nat
  parityEven : Bool
  deriving DecidableEq, Repr

/-- The Link Interface (R196). `gapTimer = none` is the stopped timer (R198); `line` is in force, `lineBefore` was in force
before the last change, `rxLine` are the settings of a byte whose start bit has been detected on RXD (R197); of the reply being sent,
`txSent` bytes have been sent whole, and `txBegun` says that one more is on TXD (R205). -/
structure LinkInterface where
  fifo : List FifoItem
  gapTimer : Option Nat
  assembler : Assembler
  requests : List Frame
  phase : ServicePhase
  counters : Counters
  settings : Settings
  line : LineSettings
  lineBefore : LineSettings
  pendingLine : Option LineSettings
  rxLine : Option LineSettings
  txBegun : Bool
  txSent : Nat
  deriving DecidableEq, Repr

/-- What the serial lines do that has no row of its own (R197, R198, R205; log 28): the start bit of a byte on RXD; CTS rises or falls;
a byte of a reply, not its last, has been sent whole on TXD. -/
inductive LineEvent where
  | startBit
  | ctsRise
  | ctsFall
  | byteSent
  deriving DecidableEq, Repr

/-- The dedicated lines (00_scope.md, Pin functions); true is asserted, or high for the inputs and RESETN. `ahead` is the model's own: as
`pending` holds the commands that wait, it holds what the serial lines do before each crystal tick to come, in order (log 28). -/
structure Lines where
  rts : Bool
  attn : Bool
  wake : Bool
  rec_ : Bool
  resetn : Bool
  cts : Bool
  lockA : Bool
  lockB : Bool
  faultA : Bool
  faultB : Bool
  ahead : List (List LineEvent)
  deriving DecidableEq, Repr

/-! ## The whole -/

/-- The machine. `pending` is the queue of commands that wait, first in first out. -/
structure State where
  time : TimeBase
  catalogue : Catalogue
  guide : List Event
  links : List Link
  book : BookingTable
  planner : Planner
  orders : OrderUnit
  monitor : TunerMonitor
  wake : WakeUnit
  storage : Estimator
  notices : NoticeQueue
  link : LinkInterface
  lines : Lines
  pending : List Instr
  deriving DecidableEq, Repr

/-- Faults: the spec gives the part no state in which it stops, so no command raises one and the type is empty (safe: a claim
that a run stops cannot be proved). -/
inductive Fault where
  deriving DecidableEq, Repr

/-- Refusals. -/
inductive Refusal where
  /-- Raised by an arm of exec whose command has no meaning yet; no arm does so (safe: the model stops). -/
  | notModelled (mnemonic : String)
  deriving DecidableEq, Repr

/-! ## Power-on values -/

/-- The settings' defaults (11_the_message_link.md, Settings). -/
def Settings.default : Settings :=
  { linkRate := 115200, parityEven := false, rxTrigger := 48, prePadDefault := 120, postPadDefault := 300,
    purgeAge := 48, feedMode := .independent, liveRank := 8, orderTimeout := 20, runHold := 4,
    accurateSlack := 1800, lossExtended := false, gapLimit := 300, wakeOff := false, wakeLead := 300,
    wakeTimeout := 180, spaceFloor := 2000, spaceHorizon := 7, spaceAlarm := true, defaultRate := 8000,
    noticeMask := 0x7F }

/-- R1. -/
def TimeBase.reset : TimeBase :=
  { seconds := 0, sub := 0, hold := 0, clockSet := false, trim := 0, slew := 0, capture := none, zone := 0,
    nextChange := none, lastDate := none }

/-- R84. -/
def Planner.reset : Planner :=
  { plan := [], clashes := [], running := none, repass := false, lastT0 := none, triggered := false }

/-- R140. -/
def Tuner.reset : Tuner :=
  { condition := .unused, faultLatch := false, changeLatch := false, tuned := none, grace := none, loss := none,
    regain := none }

/-- R160. -/
def WakeUnit.reset : WakeUnit :=
  { host := .up, attempt := none, pause := none, due := none, wakeAt := none, abandon := [], failed := 0 }

/-- R196: all counters 0. -/
def Counters.zero : Counters := ⟨0, 0, 0, 0, 0⟩

/-- R196, R197: the Link Interface after a power-on reset. -/
def LinkInterface.reset : LinkInterface :=
  { fifo := [], gapTimer := none, assembler := .hunting, requests := [], phase := .idle, counters := .zero,
    settings := .default, line := ⟨115200, false⟩, lineBefore := ⟨115200, false⟩, pendingLine := none,
    rxLine := none, txBegun := false, txSent := 0 }

/-- The lines after the release of RESETN: RTS asserted (R196), ATTN, WAKE and REC deasserted (R184, R160, R64). The levels
of the inputs are DESIGN CHOICES (log 6). -/
def Lines.reset : Lines :=
  { rts := true, attn := false, wake := false, rec_ := false, resetn := true, cts := true,
    lockA := false, lockB := false, faultA := false, faultB := false, ahead := [] }

/-- The machine right after a power-on reset: every block at the values of its state table. -/
def State.reset : State :=
  { time := .reset
    catalogue := ⟨[], []⟩
    guide := []
    links := []
    book := ⟨[], 1⟩
    planner := .reset
    orders := ⟨[], none⟩
    monitor := ⟨.reset, .reset, none, none⟩
    wake := .reset
    storage := ⟨none, 0, 0, false⟩
    notices := ⟨[], false⟩
    link := .reset
    lines := .reset
    pending := [] }

/-- The empty cause set (R45). -/
def Causes.none : Causes := ⟨false, false, false, false, false⟩

/-- All flags clear (R54, R75). -/
def BookingFlags.clear : BookingFlags := ⟨false, false, false, false, false, false, false, false, false⟩

/-- Nothing held for a booking (R114, the power-on column). -/
def OrderItems.empty : OrderItems :=
  { report := none, candidate := none, runningAt := none, notRunningAt := none, firstAttempt := false, stopAt := none,
    overrun := .none, inGap := false, failover := 0, moveTarget := none, lateMove := false, endTaken := none }

/-! ## One update per block -/

def State.setTime (s : State) (x : TimeBase) : State := { s with time := x }
def State.setCatalogue (s : State) (x : Catalogue) : State := { s with catalogue := x }
def State.setGuide (s : State) (x : List Event) : State := { s with guide := x }
def State.setLinks (s : State) (x : List Link) : State := { s with links := x }
def State.setBook (s : State) (x : BookingTable) : State := { s with book := x }
def State.setPlanner (s : State) (x : Planner) : State := { s with planner := x }
def State.setOrders (s : State) (x : OrderUnit) : State := { s with orders := x }
def State.setMonitor (s : State) (x : TunerMonitor) : State := { s with monitor := x }
def State.setWake (s : State) (x : WakeUnit) : State := { s with wake := x }
def State.setStorage (s : State) (x : Estimator) : State := { s with storage := x }
def State.setNotices (s : State) (x : NoticeQueue) : State := { s with notices := x }
def State.setLink (s : State) (x : LinkInterface) : State := { s with link := x }
def State.setLines (s : State) (x : Lines) : State := { s with lines := x }
def State.setPending (s : State) (x : List Instr) : State := { s with pending := x }

end Sys2Proof.Machine
end

