-- ==== Sys2Proof/Machine/Operands.lean ====
section
/-! DEFINITION. The operands of the request rows: the fields of each request body (R213, R214, R215). A body of a length the
kind does not allow is BadLength (R204 step 2); a coded field that is used and names none of its choices is BadField
(R204 step 3). -/

namespace Sys2Proof.Machine

/-- Bytes sent high byte first (R204), as a number. -/
def beNat (bytes : List Byte) : Nat := bytes.foldl (fun n b => n * 256 + b.toNat) 0

/-- A 16-bit value in two's complement (R204). -/
def signed16 (n : Nat) : Int := if n < 32768 then (n : Int) else (n : Int) - 65536

/-- A number as two bytes, high byte first (R204). -/
def be16 (n : Nat) : List Byte := [BitVec.ofNat 8 (n / 256), BitVec.ofNat 8 n]

/-- A number as four bytes, high byte first (R204). -/
def be32 (n : Nat) : List Byte :=
  [BitVec.ofNat 8 (n / 16777216), BitVec.ofNat 8 (n / 65536), BitVec.ofNat 8 (n / 256), BitVec.ofNat 8 n]

/-- A signed value as two bytes in two's complement, high byte first (R204). -/
def be16i (n : Int) : List Byte := be16 (n % 65536).toNat

/-- A value read from a body, or the result code that refuses the body. -/
abbrev Parsed (α : Type) := Except Result α

/-- A body with no field (R213): any other length is BadLength. -/
def parseEmpty : List Byte → Parsed Unit
  | [] => .ok ()
  | _ => .error .badLength

/-- A coded yes/no field (R215). -/
def parseBool (b : Byte) : Parsed Bool :=
  match b.toNat with
  | 0 => .ok false
  | 1 => .ok true
  | _ => .error .badField

/-- A coded tuner (R215: 0 A, 1 B). -/
def parseTuner (b : Byte) : Parsed TunerId :=
  match b.toNat with
  | 0 => .ok .a
  | 1 => .ok .b
  | _ => .error .badField

/-- The optional values of BookEvent, BookTime, Amend, LinkSeries and LinkSlot. -/
structure Options where
  priority : Option Nat
  prePad : Option Nat
  postPad : Option Nat
  accurate : Option Bool
  deriving DecidableEq, Repr

/-- The presence byte and the values in their fixed places after it: bit 0 priority, bit 1 pre-padding, bit 2 post-padding,
bit 3 accurate flag (R215). A value whose mark is clear is ignored. -/
def parseOptions (presence priority pre1 pre0 post1 post0 accurate : Byte) : Parsed Options :=
  let plain : Options :=
    { priority := if presence.getLsbD 0 then some priority.toNat else none
      prePad := if presence.getLsbD 1 then some (beNat [pre1, pre0]) else none
      postPad := if presence.getLsbD 2 then some (beNat [post1, post0]) else none
      accurate := none }
  if presence.getLsbD 3 then
    match parseBool accurate with
    | .ok yes => .ok { plain with accurate := some yes }
    | .error r => .error r
  else .ok plain

/-- TimeReport: B 4. -/
def parseTimeReport : List Byte → Parsed Nat
  | [b3, b2, b1, b0] => .ok (beNat [b3, b2, b1, b0])
  | _ => .error .badLength

/-- ZoneReport's fields; `next` is absent when the next-change mark is clear. -/
structure ZoneFields where
  offset : Int
  next : Option (Nat × Int)
  deriving DecidableEq, Repr

/-- ZoneReport: offset 2, mark 1, X 4, next offset 2. -/
def parseZoneReport : List Byte → Parsed ZoneFields
  | [o1, o0, mark, x3, x2, x1, x0, n1, n0] =>
    match parseBool mark with
    | .ok true => .ok ⟨signed16 (beNat [o1, o0]), some (beNat [x3, x2, x1, x0], signed16 (beNat [n1, n0]))⟩
    | .ok false => .ok ⟨signed16 (beNat [o1, o0]), none⟩
    | .error r => .error r
  | _ => .error .badLength

/-- MuxLoad: multiplex id 2, quadrant 1. -/
def parseMuxLoad : List Byte → Parsed (Nat × Nat)
  | [i1, i0, q] => .ok (beNat [i1, i0], q.toNat)
  | _ => .error .badLength

/-- ServiceLoad's fields. -/
structure ServiceFields where
  number : Nat
  mux : Nat
  rate : Nat
  deriving DecidableEq, Repr

/-- ServiceLoad: service number 2, multiplex index 1, rate 2. -/
def parseServiceLoad : List Byte → Parsed ServiceFields
  | [n1, n0, m, r1, r0] => .ok ⟨beNat [n1, n0], m.toNat, beNat [r1, r0]⟩
  | _ => .error .badLength

/-- One byte: MuxDrop, QueryLink, QueryClashes, GetSetting. -/
def parseByte : List Byte → Parsed Nat
  | [b] => .ok b.toNat
  | _ => .error .badLength

/-- Two bytes: ServiceDrop, Cancel, Purge, QueryBooking. -/
def parseWord : List Byte → Parsed Nat
  | [b1, b0] => .ok (beNat [b1, b0])
  | _ => .error .badLength

/-- One entry of a guide batch (R28). -/
structure BatchEntry where
  id : Nat
  offset : Nat
  duration : Nat
  tag : Option Nat
  key : Option Nat
  capable : Bool
  repeats : Nat
  spacing : Nat
  step : Nat
  deriving DecidableEq, Repr

/-- A guide batch (R28). -/
structure Batch where
  service : Nat
  base : Nat
  from_ : Nat
  to_ : Nat
  entries : List BatchEntry
  deriving DecidableEq, Repr

/-- The four bytes of an optional 32-bit field whose mark is set (R214). -/
def takeOptional32 (present : Bool) (bytes : List Byte) : Option (Option Nat × List Byte) :=
  if present then
    match bytes with
    | b3 :: b2 :: b1 :: b0 :: rest => some (some (beNat [b3, b2, b1, b0]), rest)
    | _ => none
  else some (none, bytes)

/-- One entry of 13, 17 or 21 bytes (R214). The four top bits of the duration field and the two of the spacing field are ignored
(log 59). -/
def takeEntry (bytes : List Byte) : Option (BatchEntry × List Byte) :=
  match bytes with
  | i1 :: i0 :: o3 :: o2 :: o1 :: o0 :: d2 :: d1 :: d0 :: p2 :: p1 :: p0 :: k :: rest =>
    let d := beNat [d2, d1, d0]
    let p := beNat [p2, p1, p0]
    match takeOptional32 (d / 131072 % 2 == 1) rest with
    | none => none
    | some (tag, rest) =>
      match takeOptional32 (d / 262144 % 2 == 1) rest with
      | none => none
      | some (key, rest) =>
        some ({ id := beNat [i1, i0], offset := beNat [o3, o2, o1, o0], duration := d % 131072, tag := tag, key := key,
                capable := d / 524288 % 2 == 1, repeats := p / 131072 % 32, spacing := p % 131072, step := k.toNat }, rest)
  | _ => none

/-- The entries that follow the header, and the bytes left over. -/
def takeEntries : Nat → List Byte → Option (List BatchEntry × List Byte)
  | 0, bytes => some ([], bytes)
  | n + 1, bytes =>
    match takeEntry bytes with
    | none => none
    | some (e, rest) =>
      match takeEntries n rest with
      | none => none
      | some (es, rest) => some (e :: es, rest)

/-- GuideBatch: header of 15 bytes, at most 16 entries, and no byte left over; otherwise BadLength (R214). -/
def parseGuideBatch (body : List Byte) : Parsed Batch :=
  match body with
  | s1 :: s0 :: b3 :: b2 :: b1 :: b0 :: f3 :: f2 :: f1 :: f0 :: t3 :: t2 :: t1 :: t0 :: n :: rest =>
    if n.toNat ≤ 16 then
      match takeEntries n.toNat rest with
      | some (entries, []) =>
        .ok ⟨beNat [s1, s0], beNat [b3, b2, b1, b0], beNat [f3, f2, f1, f0], beNat [t3, t2, t1, t0], entries⟩
      | _ => .error .badLength
    else .error .badLength
  | _ => .error .badLength

/-- GuideDrop's fields; `range = none` is All. -/
structure DropFields where
  service : Nat
  range : Option (Nat × Nat)
  deriving DecidableEq, Repr

/-- GuideDrop: service index 2, range mark 1, from 4, to 4. -/
def parseGuideDrop : List Byte → Parsed DropFields
  | [s1, s0, mark, f3, f2, f1, f0, t3, t2, t1, t0] =>
    match parseBool mark with
    | .ok true => .ok ⟨beNat [s1, s0], none⟩
    | .ok false => .ok ⟨beNat [s1, s0], some (beNat [f3, f2, f1, f0], beNat [t3, t2, t1, t0])⟩
    | .error r => .error r
  | _ => .error .badLength

/-- QueryEvent: service index 2, event id 2. -/
def parseEventRef : List Byte → Parsed EventRef
  | [s1, s0, e1, e0] => .ok ⟨beNat [s1, s0], beNat [e1, e0]⟩
  | _ => .error .badLength

/-- BookEvent: service index 2, event id 2, then the optional values. -/
def parseBookEvent : List Byte → Parsed (EventRef × Options)
  | [s1, s0, e1, e0, p, pr, a1, a0, b1, b0, ac] =>
    match parseOptions p pr a1 a0 b1 b0 ac with
    | .ok o => .ok (⟨beNat [s1, s0], beNat [e1, e0]⟩, o)
    | .error r => .error r
  | _ => .error .badLength

/-- BookTime's fields. -/
structure TimeFields where
  service : Nat
  start : Nat
  duration : Nat
  deriving DecidableEq, Repr

/-- BookTime: service index 2, nominal start 4, duration 4, then the optional values. -/
def parseBookTime : List Byte → Parsed (TimeFields × Options)
  | [s1, s0, n3, n2, n1, n0, d3, d2, d1, d0, p, pr, a1, a0, b1, b0, ac] =>
    match parseOptions p pr a1 a0 b1 b0 ac with
    | .ok o => .ok (⟨beNat [s1, s0], beNat [n3, n2, n1, n0], beNat [d3, d2, d1, d0]⟩, o)
    | .error r => .error r
  | _ => .error .badLength

/-- Amend: handle 2, then the optional values. -/
def parseAmend : List Byte → Parsed (Nat × Options)
  | [h1, h0, p, pr, a1, a0, b1, b0, ac] =>
    match parseOptions p pr a1 a0 b1 b0 ac with
    | .ok o => .ok (beNat [h1, h0], o)
    | .error r => .error r
  | _ => .error .badLength

/-- ListBookings' filter (R61). -/
inductive Filter where
  | any | unfinished | finished
  deriving DecidableEq, Repr

/-- ListBookings: start handle 2, filter 1 (0 Any, 1 Unfinished, 2 Finished). -/
def parseListBookings : List Byte → Parsed (Nat × Filter)
  | [h1, h0, f] =>
    match f.toNat with
    | 0 => .ok (beNat [h1, h0], .any)
    | 1 => .ok (beNat [h1, h0], .unfinished)
    | 2 => .ok (beNat [h1, h0], .finished)
    | _ => .error .badField
  | _ => .error .badLength

/-- LinkSeries' fields; `service = none` is Any (0xFFFF). -/
structure SeriesFields where
  tag : Nat
  service : Option Nat
  policy : Policy
  deriving DecidableEq, Repr

/-- LinkSeries: series tag 4, service index 2, policy 1 (0 NewOnly, 1 All), then the optional values. -/
def parseLinkSeries : List Byte → Parsed (SeriesFields × Options)
  | [t3, t2, t1, t0, s1, s0, pol, p, pr, a1, a0, b1, b0, ac] =>
    match parseBool pol with
    | .error r => .error r
    | .ok all =>
      match parseOptions p pr a1 a0 b1 b0 ac with
      | .error r => .error r
      | .ok o =>
        let service := beNat [s1, s0]
        .ok (⟨beNat [t3, t2, t1, t0], if service = 65535 then none else some service,
              if all then .all else .newOnly⟩, o)
  | _ => .error .badLength

/-- LinkSlot's fields. -/
structure SlotFields where
  service : Nat
  weekdays : BitVec 7
  minute : Nat
  duration : Nat
  deriving DecidableEq, Repr

/-- LinkSlot: service index 2, weekday mask 1 (bit 7 ignored), start minute 2, duration 4, then the optional values. -/
def parseLinkSlot : List Byte → Parsed (SlotFields × Options)
  | [s1, s0, w, m1, m0, d3, d2, d1, d0, p, pr, a1, a0, b1, b0, ac] =>
    match parseOptions p pr a1 a0 b1 b0 ac with
    | .ok o => .ok (⟨beNat [s1, s0], BitVec.ofNat 7 w.toNat, beNat [m1, m0], beNat [d3, d2, d1, d0]⟩, o)
    | .error r => .error r
  | _ => .error .badLength

/-- Unlink: link index 1, Keep mark 1. -/
def parseUnlink : List Byte → Parsed (Nat × Bool)
  | [i, k] =>
    match parseBool k with
    | .ok keep => .ok (i.toNat, keep)
    | .error r => .error r
  | _ => .error .badLength

/-- QueryPlan's fields. -/
structure PlanFields where
  tuner : TunerId
  from_ : Nat
  to_ : Nat
  skip : Nat
  deriving DecidableEq, Repr

/-- QueryPlan: tuner 1, from 4, to 4, skip count 1. -/
def parseQueryPlan : List Byte → Parsed PlanFields
  | [t, f3, f2, f1, f0, t3, t2, t1, t0, k] =>
    match parseTuner t with
    | .ok x => .ok ⟨x, beNat [f3, f2, f1, f0], beNat [t3, t2, t1, t0], k.toNat⟩
    | .error r => .error r
  | _ => .error .badLength

/-- LiveClaim: multiplex index 1, tuner 1. -/
def parseLiveClaim : List Byte → Parsed (Nat × TunerId)
  | [m, t] =>
    match parseTuner t with
    | .ok x => .ok (m.toNat, x)
    | .error r => .error r
  | _ => .error .badLength

/-- ClearFault: tuner 1. -/
def parseClearFault : List Byte → Parsed TunerId
  | [t] => parseTuner t
  | _ => .error .badLength

/-- A coded running status (R215). -/
def parseStatus (b : Byte) : Parsed RunStatus :=
  match b.toNat with
  | 0 => .ok .notRunning
  | 1 => .ok .startsSoon
  | 2 => .ok .running
  | 3 => .ok .paused
  | _ => .error .badField

/-- RunStatus: service index 2, event id 2, status 1. -/
def parseRunStatus : List Byte → Parsed (EventRef × RunStatus)
  | [s1, s0, e1, e0, st] =>
    match parseStatus st with
    | .ok x => .ok (⟨beNat [s1, s0], beNat [e1, e0]⟩, x)
    | .error r => .error r
  | _ => .error .badLength

/-- RecordReport: handle 2, kind 1, reason code 1, which may take any value and is not kept (R122). The handle. -/
def parseReport : List Byte → Parsed Nat
  | [h1, h0, k, _] => if k.toNat ≤ 4 then .ok (beNat [h1, h0]) else .error .badField
  | _ => .error .badLength

/-- HostState: form 1 (0 Ready, 1 Standby), force mark 1, not used for Ready. `some force` is Standby. -/
def parseHostState : List Byte → Parsed (Option Bool)
  | [f, m] =>
    match parseBool f with
    | .error r => .error r
    | .ok false => .ok none
    | .ok true =>
      match parseBool m with
      | .ok force => .ok (some force)
      | .error r => .error r
  | _ => .error .badLength

/-- StorageReport: mark 1 (0 value, 1 Keep), free 4. `none` is Keep. -/
def parseStorageReport : List Byte → Parsed (Option Nat)
  | [m, f3, f2, f1, f0] =>
    match parseBool m with
    | .ok true => .ok none
    | .ok false => .ok (some (beNat [f3, f2, f1, f0]))
    | .error r => .error r
  | _ => .error .badLength

/-- SetSetting: item code 1, value 4. -/
def parseSetSetting : List Byte → Parsed (Nat × Nat)
  | [i, v3, v2, v1, v0] => .ok (i.toNat, beNat [v3, v2, v1, v0])
  | _ => .error .badLength

/-- Echo: a body of 0 to 239 bytes (R207). -/
def parseEcho (body : List Byte) : Parsed (List Byte) :=
  if body.length ≤ 239 then .ok body else .error .badLength

end Sys2Proof.Machine
end

