-- ==== Sys2Proof/Machine/Flags.lean ====
section
/-! DEFINITION. The levels of the output lines: REC (R64), ATTN (R193), WAKE (R160), RTS (R201). -/

namespace Sys2Proof.Machine

/-- REC is asserted while at least one booking is in Recording (R64). -/
def recLevel (records : List Booking) : Bool := records.any fun b => b.state == .recording

/-- ATTN is asserted while the order list holds an undelivered order or the notice queue holds a notice (R193). -/
def attnLevel (orders : List Order) (queue : List Notice) : Bool :=
  orders.any (fun o => !o.delivered) || !queue.isEmpty

/-- WAKE is asserted in Waking with phase Asserting, and deasserted in every other state and phase (R160). -/
def wakeLevel : HostState → Bool
  | .waking1 => true
  | .waking2 => true
  | _ => false

/-- RTS falls when the FIFO holds RxTrigger entries or more or the request queue holds 2 frames; it rises when the FIFO
holds 8 entries or fewer and the request queue fewer than 2 frames; between, it keeps its level (R201). -/
def rtsLevel (entries frames trigger : Nat) (old : Bool) : Bool :=
  if trigger ≤ entries ∨ 2 ≤ frames then false
  else if entries ≤ 8 then true
  else old

/-- A byte entry occupies a place of the FIFO; a mark does not (R198). -/
def FifoItem.isByte : FifoItem → Bool
  | .byte _ _ => true
  | _ => false

/-- The byte entries the FIFO holds. -/
def entryCount (fifo : List FifoItem) : Nat := (fifo.filter FifoItem.isByte).length

/-- REC, ATTN and WAKE set again from the state they follow. -/
def State.driveLines (s : State) : State :=
  s.setLines { s.lines with
    rec_ := recLevel s.book.records
    attn := attnLevel s.orders.orders s.notices.queue
    wake := wakeLevel s.wake.host }

/-- RTS set again from the FIFO and the request queue (R201). -/
def State.driveRts (s : State) : State :=
  s.setLines { s.lines with
    rts := rtsLevel (entryCount s.link.fifo) s.link.requests.length s.link.settings.rxTrigger s.lines.rts }

end Sys2Proof.Machine
end

