-- ==== Sys2Proof/Machine/Ops.lean ====
section
/-! DEFINITION. The shared operations: ordered lists, what every block reads of the others, pass triggers (R85, R88),
offering a notice (R186 to R188), the booking table (R43, R44), the outcome of a booking (R47, R48). -/

namespace Sys2Proof.Machine

/-- A count at or above a length (R129, R141, R160). -/
def Count.reaches (c : Count) (length : Nat) : Bool := decide (length ≤ c.seconds)

/-! ## Ordered lists -/

/-- x put before the first element it must stand before. -/
def insertBy {α : Type} (before : α → α → Bool) (x : α) : List α → List α
  | [] => [x]
  | y :: ys => if before x y then x :: y :: ys else y :: insertBy before x ys

/-- The list in order. With a non-strict order (x at or before y), equal elements keep their order. -/
def sortBy {α : Type} (before : α → α → Bool) (xs : List α) : List α := xs.foldr (insertBy before) []

/-- The first of k, k + 1, … , k + n - 1 that is not used. -/
def firstFree (used : List Nat) (k : Nat) : Nat → Option Nat
  | 0 => none
  | n + 1 => if used.contains k then firstFree used (k + 1) n else some k

/-! ## What the blocks read of one another -/

/-- The value of the seconds count (00_scope.md, Time). -/
def State.now (s : State) : Nat := s.time.seconds

/-- The settings (R196). -/
def State.settings (s : State) : Settings := s.link.settings

/-- The occupied multiplex entry at an index (R20). -/
def findMux (muxes : List Mux) (index : Nat) : Option Mux := muxes.find? fun m => m.index == index

/-- The occupied service entry at an index (R20). -/
def findService (services : List Service) (index : Nat) : Option Service := services.find? fun v => v.index == index

/-- The multiplex of a service (R23). The service of an unfinished booking is occupied (R25), but for one taken from an alternative whose
service was dropped while the booking was Due or Recording, before a Restart (R35, R137): then the spec gives none, and it is a free value (log 64). -/
def muxOf (services : List Service) (service : Nat) : Nat :=
  match findService services service with
  | some v => v.mux
  | none => (Config.freeMux service).val

/-- The quadrant of a multiplex (R23); of a free multiplex index the spec gives none, and it is a free value (log 64). -/
def quadrantOf (muxes : List Mux) (mux : Nat) : Nat :=
  match findMux muxes mux with
  | some m => m.quadrant
  | none => (Config.freeQuadrant mux).val

/-- The event of the event table with a service and an event id (R26). -/
def findEvent (guide : List Event) (ref : EventRef) : Option Event :=
  guide.find? fun e => e.service == ref.service && e.id == ref.id

/-- The name of an event. -/
def Event.ref (e : Event) : EventRef := ⟨e.service, e.id⟩

/-- An event's end (R26). -/
def Event.stop (e : Event) : Nat := e.start + e.duration

/-- The name of an alternative's event. -/
def Alternative.ref (a : Alternative) : EventRef := ⟨a.service, a.id⟩

/-- The alternative entry of an event (R73). -/
def Event.alternative (e : Event) : Alternative := ⟨e.service, e.id, e.start, e.stop⟩

/-- The other tuner. -/
def otherTuner : TunerId → TunerId
  | .a => .b
  | .b => .a

/-! ## Windows (R44) -/

/-- The padded start of a window: not below 0 (R44). -/
def padStart (nominalStart prePad : Nat) : Nat := nominalStart - prePad

/-- The padded end of a window: not above 4294967295 (R44). -/
def padStop (nominalStop postPad : Nat) : Nat := min (nominalStop + postPad) maxU32

/-- The padded start of a booking (R44). -/
def Booking.paddedStart (b : Booking) : Nat := padStart b.nominalStart b.prePad

/-- The padded end of a booking (R44). -/
def Booking.paddedStop (b : Booking) : Nat := padStop b.nominalStop b.postPad

/-- Any lifecycle state other than Finished (00_scope.md). -/
def Booking.unfinished (b : Booking) : Bool := b.state != .finished

/-- Pending or Armed: the states in which a booking is still only planned. -/
def Booking.planned (b : Booking) : Bool := b.state == .pending || b.state == .armed

/-- Due, Recording or Stopping (R91). -/
def Booking.pinned (b : Booking) : Bool := b.state == .due || b.state == .recording || b.state == .stopping

/-- Placed, on whichever tuner. -/
def Placement.isPlaced : Placement → Bool
  | .placed _ _ _ => true
  | _ => false

/-- Unplaced, with whichever causes. -/
def Placement.isUnplaced : Placement → Bool
  | .unplaced _ => true
  | _ => false

/-- The tuner of a placement. -/
def Placement.tuner? : Placement → Option TunerId
  | .placed t _ _ => some t
  | _ => Option.none

/-- The effective start of a placement. -/
def Placement.start? : Placement → Option Nat
  | .placed _ a _ => some a
  | _ => Option.none

/-- The effective end of a placement. -/
def Placement.stop? : Placement → Option Nat
  | .placed _ _ e => some e
  | _ => Option.none

/-- The cause set of a placement; empty unless Unplaced. -/
def Placement.causes : Placement → Causes
  | .unplaced c => c
  | _ => .none

/-- nominal end + AccurateSlack (R132). -/
def State.slackEnd (s : State) (b : Booking) : Nat := b.nominalStop + s.settings.accurateSlack

/-! ## The booking table -/

/-- The record with a handle (R41). -/
def State.booking? (s : State) (h : Nat) : Option Booking := s.book.records.find? fun b => b.handle == h

/-- One record changed. -/
def State.modBooking (s : State) (h : Nat) (f : Booking → Booking) : State :=
  s.setBook { s.book with records := s.book.records.map fun b => if b.handle == h then f b else b }

/-- The Order Unit's items of one booking changed. -/
def State.modItems (s : State) (h : Nat) (f : OrderItems → OrderItems) : State :=
  s.modBooking h fun b => { b with items := f b.items }

/-- The unfinished booking that holds an event as its main event (R27, R54, R70); the one of lowest handle where several do (log 61). -/
def State.mainHolder? (s : State) (ref : EventRef) : Option Booking :=
  s.book.records.find? fun b => b.unfinished && b.main == some ref

/-- The handles of all records, ascending. -/
def State.handles (s : State) : List Nat := s.book.records.map (·.handle)

/-! ## Pass triggers (R85, R86, R88) -/

/-- A pass trigger: taken at the end of the command in hand (R86; log 4). -/
def State.trigger (s : State) : State := s.setPlanner { s.planner with triggered := true }

/-- The record was changed after T₀, so the Running pass's result for it is discarded (R88). -/
def State.markChanged (s : State) (h : Nat) : State :=
  match s.planner.running with
  | none => s
  | some p => s.setPlanner { s.planner with running := some { p with changed := h :: p.changed } }

/-- A change of a booking that is a pass trigger (R85). -/
def State.bookingChanged (s : State) (h : Nat) : State := (s.markChanged h).trigger

/-- A booking leaves Pending or Armed: a pass trigger while a pass is Running, and its result there is discarded (R85, R88). -/
def State.leavesPlan (s : State) (h : Nat) : State :=
  match s.planner.running with
  | none => s
  | some _ => s.bookingChanged h

/-- A booking opens: a pass trigger while a pass is Running (R116). -/
def State.opensInPass (s : State) : State :=
  match s.planner.running with
  | none => s
  | some _ => s.trigger

/-- The live claim was made, replaced or released: a pass trigger, and the Running pass's result for it is discarded
(R85, R88). -/
def State.liveClaimChanged (s : State) : State :=
  match s.planner.running with
  | none => s.trigger
  | some p => (s.setPlanner { s.planner with running := some { p with liveChanged := true } }).trigger

/-! ## Notices (R185 to R189) -/

/-- The class of a notice (R185). -/
def NoticeBody.cls : NoticeBody → NoticeClass
  | .bookingState _ _ => .booking
  | .clashFound _ _ => .clash
  | .clashCleared _ _ _ _ => .clash
  | .seriesBooked _ _ => .series
  | .seriesFull _ => .series
  | .tunerChange _ _ _ _ _ => .tuner
  | .liveYield _ _ _ => .tuner
  | .wakeFailed _ _ _ => .wake
  | .clockStepped _ _ => .time
  | .zoneChanged _ _ _ => .time
  | .spaceLow _ _ _ _ => .storage

/-- The bit of a class in NoticeMask (the settings table, item 21). -/
def NoticeClass.bit : NoticeClass → Nat
  | .booking => 0
  | .clash => 1
  | .series => 2
  | .tuner => 3
  | .wake => 4
  | .time => 5
  | .storage => 6

/-- The class is enabled in the mask (R189). -/
def enabled (mask : BitVec 7) (body : NoticeBody) : Bool := mask.getLsbD body.cls.bit

/-- The booking of a queued BookingState. -/
def NoticeBody.stateOf : NoticeBody → Option Nat
  | .bookingState h _ => some h
  | _ => none

/-- The booking of a queued ClashFound. -/
def NoticeBody.foundOf : NoticeBody → Option Nat
  | .clashFound h _ => some h
  | _ => none

/-- The booking of a queued ClashCleared. -/
def NoticeBody.clearedOf : NoticeBody → Option Nat
  | .clashCleared h _ _ _ => some h
  | _ => none

/-- The queued notices of one kind and booking take the new contents and keep their places (R187, R188). -/
def replaceNotice (key : NoticeBody → Option Nat) (h : Nat) (n : Notice) (queue : List Notice) : List Notice :=
  queue.map fun q => if key q.body == some h then n else q

/-- The queued notices of one kind and booking removed (R188). -/
def removeNotice (key : NoticeBody → Option Nat) (h : Nat) (queue : List Notice) : List Notice :=
  queue.filter fun q => !(key q.body == some h)

/-- A notice of one kind and booking is queued. -/
def hasNotice (key : NoticeBody → Option Nat) (h : Nat) (queue : List Notice) : Bool :=
  queue.any fun q => key q.body == some h

/-- The queue after coalescing, where the offered notice coalesces with a queued one (R187, R188). -/
def coalesced (n : Notice) (queue : List Notice) : Option (List Notice) :=
  match n.body with
  | .bookingState h _ =>
    if hasNotice NoticeBody.stateOf h queue then some (replaceNotice NoticeBody.stateOf h n queue) else none
  | .clashFound h _ =>
    if hasNotice NoticeBody.clearedOf h queue then some (removeNotice NoticeBody.clearedOf h queue)
    else if hasNotice NoticeBody.foundOf h queue then some (replaceNotice NoticeBody.foundOf h n queue)
    else none
  | .clashCleared h _ _ _ =>
    if hasNotice NoticeBody.foundOf h queue then some (removeNotice NoticeBody.foundOf h queue)
    else if hasNotice NoticeBody.clearedOf h queue then some (replaceNotice NoticeBody.clearedOf h n queue)
    else none
  | _ => none

/-- What offering a notice makes of the Notice Queue: mask, coalescing, room, full (R186). -/
def offerTo (mask : BitVec 7) (n : Notice) (q : NoticeQueue) : NoticeQueue :=
  if enabled mask n.body then
    match coalesced n q.queue with
    | some queue => { q with queue := queue }
    | none =>
      if q.queue.length < Config.maxNotices then { q with queue := q.queue ++ [n] }
      else { q with lost := true }
  else q

/-- Offering a notice (R186). -/
def State.offer (s : State) (body : NoticeBody) : State :=
  s.setNotices (offerTo s.settings.noticeMask ⟨body, s.now⟩ s.notices)

/-- The payload of a BookingState notice (R185). -/
def Booking.report (b : Booking) (lastCauses : Causes) : BookingReport :=
  ⟨b.state, b.placement, b.verdict, lastCauses⟩

/-- A BookingState notice of a booking as it stands (R51). -/
def State.noteState (s : State) (h : Nat) : State :=
  match s.booking? h with
  | none => s
  | some b => s.offer (.bookingState h (b.report .none))

/-! ## Creating a record (R43) -/

/-- The next handle: from 65535 to 1 (R43). -/
def nextHandle (h : Nat) : Nat := if 65535 ≤ h then 1 else h + 1

/-- The first free handle from h on, within n tries (R43). -/
def issueHandle (used : List Nat) (h : Nat) : Nat → Nat
  | 0 => h
  | n + 1 => if used.contains h then issueHandle used (nextHandle h) n else h

/-- Creation of a record: refused with `none` while the table holds 128 records; otherwise the handle issued and the record
in its place, a pass trigger (R43, R85). -/
def State.create (s : State) (make : Nat → Booking) : Option (Nat × State) :=
  if s.book.records.length < Config.maxBookings then
    let h := issueHandle s.handles s.book.next 129
    let records := insertBy (fun x y => decide (x.handle < y.handle)) (make h) s.book.records
    some (h, (s.setBook ⟨records, nextHandle h⟩).trigger)
  else none

/-- A record as it is created: Pending, Unplaced with an empty cause set, everything else absent or clear (R45, R54, R75). -/
def freshBooking (h : Nat) (origin : Origin) (service start stop : Nat) (event : Option Event)
    (priority prePad postPad : Nat) (accurate : Bool) : Booking :=
  { handle := h, origin := origin, service := service, main := event.map Event.ref, tag := event.bind (·.tag),
    key := event.bind (·.key), nominalStart := start, nominalStop := stop, prePad := prePad, postPad := postPad,
    priority := priority, accurate := accurate, alternatives := [], state := .pending, stopCause := none,
    placement := .unplaced .none, verdict := none, actualStart := none, actualStop := none, gapSeconds := 0,
    gapCount := 0, flags := .clear, finishedAt := none, items := .empty, written := none, late := false, replan := false }

/-- The unfinished bookings that list an event as an alternative lose that entry, each with its BookingState notice, since
the event becomes a main event (R55, R75). Several are taken in ascending handle (log 39). -/
def State.takeFromAlternatives (s : State) (ref : EventRef) : State :=
  let holders := s.book.records.filter fun b => b.unfinished && b.alternatives.any fun a => a.ref == ref
  holders.foldl (fun s b =>
    ((s.modBooking b.handle fun b => { b with alternatives := b.alternatives.filter fun a => !(a.ref == ref) }).bookingChanged
      b.handle).noteState b.handle) s

/-- An alternative at its place in ascending start order, after any entry with the same start (R73). -/
def insertAlternative (a : Alternative) (list : List Alternative) : List Alternative :=
  insertBy (fun x y => decide (x.start < y.start)) a list

/-- The Order Unit drops a booking's candidate (R121). -/
def OrderItems.dropCandidate (i : OrderItems) : OrderItems := { i with candidate := none }

/-- The Order Unit drops a booking's report record, and with it the candidate (R128, R129). -/
def OrderItems.dropReport (i : OrderItems) : OrderItems := { i with report := none, candidate := none }

/-! ## Outcomes (R47, R48) -/

/-- actual end − actual start − gap seconds, 0 when negative or when either time is absent (R47). -/
def Booking.recordedSeconds (b : Booking) : Nat :=
  match b.actualStart, b.actualStop with
  | some a, some e => e - a - b.gapSeconds
  | _, _ => 0

/-- The end instant: actual end, or the instant the Stop order was issued (R48). -/
def Booking.endInstant (b : Booking) : Nat :=
  match b.actualStop with
  | some e => e
  | none => b.items.stopAt.getD 0

/-- Judged by the nominal window: not accurate, TimedFallback, or Running never took effect (R48). -/
def Booking.timed (b : Booking) : Bool := !b.accurate || b.flags.timedFallback || b.items.runningAt.isNone

/-- The start side is covered (R48). -/
def Booking.startCovered (b : Booking) : Bool :=
  if b.timed then
    match b.actualStart with
    | some a => decide (a ≤ b.nominalStart)
    | none => false
  else b.items.firstAttempt

/-- The end side is covered (R48). -/
def Booking.endCovered (b : Booking) : Bool :=
  if b.timed then decide (b.nominalStop ≤ b.endInstant)
  else
    match b.items.notRunningAt with
    | some t => decide (t ≤ b.endInstant)
    | none => false

/-- The outcome by R48, with the reason its last list gives. -/
def Booking.outcome (b : Booking) (reason : Reason) : Verdict :=
  if b.stopCause = some .cancel then ⟨.cancelled, .request⟩
  else if b.actualStart = none then ⟨.failed, .noStart⟩
  else if b.startCovered && b.endCovered then ⟨.completed, reason⟩
  else ⟨.partially, reason⟩

end Sys2Proof.Machine
end

