-- ==== Sys2Proof/Machine/Orders.lean ====
section
/-! DEFINITION. The due instant and the wake attempt (R165, R166, R168), and the order list (R115): issuing, removing and
delivering an order, each with the evaluation of the due instant it calls for. -/

namespace Sys2Proof.Machine

/-! ## The due instant -/

/-- The work that waits for a sleeping host: undelivered Start and Move orders count as now, placed Pending bookings at their
effective start while the clock is set; handles in `excluded` are left out (R165, R168). -/
def State.dueWork (s : State) (excluded : List Nat) : List Due :=
  let orders := s.orders.orders.filter fun o => !o.delivered && o.kind != .stop && !excluded.contains o.handle
  let starts := s.book.records.filterMap fun b =>
    if s.time.clockSet && b.state == .pending && !excluded.contains b.handle then
      b.placement.start?.map fun a => (⟨a, b.handle⟩ : Due)
    else none
  orders.map (fun o => ⟨s.now, o.handle⟩) ++ starts

/-- The earlier of two dues; the lower handle among equal instants (R165). -/
def Due.earlier (x y : Due) : Due :=
  if x.at_ < y.at_ then x else if y.at_ < x.at_ then y else if x.source ≤ y.source then x else y

/-- The earliest due instant with its source (R165). -/
def earliestDue : List Due → Option Due
  | [] => none
  | d :: ds =>
    match earliestDue ds with
    | none => some d
    | some e => some (d.earlier e)

/-- A wake attempt starts: Waking(1), phase Asserting, the attempt count from 0; due instant and wake instant are kept as they
stand, and the abandon list is emptied (R166, R168). -/
def WakeUnit.startAttempt (w : WakeUnit) : WakeUnit :=
  { w with host := .waking1, attempt := some .zero, abandon := [] }

/-- The handles the due instant leaves out: the abandon list while Abandoned (R168). -/
def WakeUnit.excluded (w : WakeUnit) : List Nat :=
  match w.host with
  | .abandoned => w.abandon
  | _ => []

/-- The Wake Unit with a due instant, its wake instant, and an attempt when that instant is at or before now (R165, R166). -/
def WakeUnit.withDue (w : WakeUnit) (due : Option Due) (lead now : Nat) (clockSet : Bool) : WakeUnit :=
  let w := { w with due := due, wakeAt := due.map fun (d : Due) => d.at_ - lead }
  match w.wakeAt with
  | some t => if clockSet && decide (t ≤ now) then w.startAttempt else w
  | none => w

/-- The Wake Unit evaluates its due instant: in Down and in Abandoned, with WakeMode Auto (R165, R168, R170). -/
def State.evaluateWake (s : State) : State :=
  if s.settings.wakeOff then s
  else if s.wake.host = .down ∨ s.wake.host = .abandoned then
    s.setWake (s.wake.withDue (earliestDue (s.dueWork s.wake.excluded)) s.settings.wakeLead s.now s.time.clockSet)
  else s

/-! ## The order list -/

/-- The order a booking holds (R115). -/
def State.orderOf (s : State) (h : Nat) : Option Order := s.orders.orders.find? fun o => o.handle == h

/-- The order list changed. -/
def State.setOrderList (s : State) (orders : List Order) : State := s.setOrders { s.orders with orders := orders }

/-- The evaluation that the removal of a Start or Move order calls for (R165). -/
def State.afterRemoval (s : State) (old : Option Order) : State :=
  match old with
  | some o => if o.kind = .stop then s else s.evaluateWake
  | none => s

/-- An order issued for a booking: any order it holds is removed, the new one goes to the end of the list (R115). -/
def State.issue (s : State) (kind : OrderKind) (h : Nat) (tuner : Option TunerId) (attempt : Nat) (onRunning : Bool) : State :=
  match s.booking? h with
  | none => s
  | some b =>
    let order : Order :=
      { kind := kind, handle := h, tuner := tuner, service := b.service, mux := muxOf s.catalogue.services b.service,
        issued := s.now, delivered := false, attempt := attempt, onRunning := onRunning, elapsed := 0, limit := 0 }
    let old := s.orderOf h
    let s := s.setOrderList ((s.orders.orders.filter fun o => o.handle != h) ++ [order])
    if kind = .stop then s.afterRemoval old else s.evaluateWake

/-- A booking's order leaves the list: answered, timed out or withdrawn (R115, R121). -/
def State.removeOrder (s : State) (h : Nat) : State :=
  let old := s.orderOf h
  (s.setOrderList (s.orders.orders.filter fun o => o.handle != h)).afterRemoval old

/-- The booking holds an order of a kind. -/
def State.holds (s : State) (h : Nat) (kind : OrderKind) : Bool :=
  match s.orderOf h with
  | some o => o.kind == kind
  | none => false

/-- The booking holds a delivered order of a kind. -/
def State.holdsDelivered (s : State) (h : Nat) (kind : OrderKind) : Bool :=
  match s.orderOf h with
  | some o => o.kind == kind && o.delivered
  | none => false

/-- The booking holds an undelivered order of a kind. -/
def State.holdsUndelivered (s : State) (h : Nat) (kind : OrderKind) : Bool :=
  match s.orderOf h with
  | some o => o.kind == kind && !o.delivered
  | none => false

/-- The timeout of a delivered order of a kind has expired (R115). -/
def Order.expired (o : Order) (kind : OrderKind) : Bool :=
  o.kind == kind && o.delivered && decide (o.limit ≤ o.elapsed)

/-- The booking holds a delivered order of a kind whose timeout has expired. -/
def State.orderExpired (s : State) (h : Nat) (kind : OrderKind) : Bool :=
  match s.orderOf h with
  | some o => o.expired kind
  | none => false

/-- The overrun claim is Open. -/
def Overrun.isOpen : Overrun → Bool
  | .opened _ _ => true
  | _ => false

/-- The record of a booking that enters Stopping (R120): the stop cause and stop instant; the gap of a Recording booking ends (R134),
that of a resumed booking in Due goes on until its next Begun (R137); the candidate and the overrun claim go (R129, R131, R132); a
delivered Move sets the late-move mark. -/
def Booking.stopped (b : Booking) (cause : StopCause) (truncated late : Bool) (now : Nat) : Booking :=
  { b with
    state := .stopping
    stopCause := some cause
    flags := { b.flags with truncated := b.flags.truncated || truncated }
    items := { b.items with
      stopAt := some now
      inGap := b.state != .recording && b.items.inGap
      failover := if b.state = .recording then 0 else b.items.failover
      candidate := none
      overrun := .none
      moveTarget := none
      lateMove := b.items.lateMove || late } }

/-- A booking's overrun claim is Open. -/
def State.claimOpen (s : State) (h : Nat) : Bool :=
  match s.booking? h with
  | some b => b.items.overrun.isOpen
  | none => false

/-- A booking enters Stopping (R120): its record, and a Stop order in place of any order. The withdrawal of an Open claim is a pass
trigger, since the result a pass computes for it is discarded (R88). -/
def State.stop (s : State) (h : Nat) (cause : StopCause) (truncated : Bool) : State :=
  let late := s.holdsDelivered h .move
  let now := s.now
  let s := if s.claimOpen h then s.trigger else s
  ((s.modBooking h fun b => b.stopped cause truncated late now).issue .stop h none 1 false).noteState h

end Sys2Proof.Machine
end

