-- ==== Sys2Proof/Machine/Series.lean ====
section
/-! DEFINITION. The Series Matcher (04_series_and_slot_links.md): local reckoning (R16, R78), matching (R70 to R74),
creation by a link (R75), Starved links (R76), instantiation and retiming (R79, R80), episode history (R77). -/

namespace Sys2Proof.Machine

/-! ## Local reckoning -/

/-- The local day number of a UTC instant under an offset in minutes (R16). -/
def localDay (seconds : Nat) (zone : Int) : Int := ((seconds : Int) + 60 * zone) / 86400

/-- Today: the local day number at now under the offset in force (R16). -/
def State.today (s : State) : Int := localDay s.now s.time.zone

/-- The weekday of a local day, Monday 0 to Sunday 6 (R16). -/
def weekday (day : Int) : Nat := ((day + 5) % 7).toNat

/-- A UTC instant within the range of the seconds count. -/
def utcInstant (u : Int) : Option Nat := if 0 ≤ u ∧ u ≤ (maxU32 : Int) then some u.toNat else none

/-- A local day and minute as UTC seconds (R78). -/
def toUtc (zone : Int) (next : Option NextChange) (day : Int) (minute : Nat) : Option Nat :=
  let l := day * 86400 + (minute : Int) * 60
  match next with
  | none => utcInstant (l - 60 * zone)
  | some n =>
    let u1 := l - 60 * zone
    let u2 := l - 60 * n.offset
    if u1 < (n.at_ : Int) then utcInstant u1
    else if (n.at_ : Int) ≤ u2 then utcInstant u2
    else utcInstant (n.at_ : Int)

/-! ## Links -/

/-- The link at an index (R66). -/
def State.link? (s : State) (index : Nat) : Option Link := s.links.find? fun l => l.index == index

/-- One link changed. -/
def State.modLink (s : State) (index : Nat) (f : Link → Link) : State :=
  s.setLinks (s.links.map fun l => if l.index == index then f l else l)

/-- The origin of a booking created by a link (R75). -/
def Link.origin (l : Link) : Origin :=
  match l.part with
  | .series _ _ _ _ => .series l.index
  | .slot _ _ _ _ _ => .slot l.index

/-- A creation by a link was refused: Starved, with a SeriesFull notice when the flag was clear (R76). -/
def State.starve (s : State) (index : Nat) : State :=
  match s.link? index with
  | none => s
  | some l =>
    if l.starved then s
    else (s.modLink index fun l => { l with starved := true }).offer (.seriesFull index)

/-- After a matching, full match or instantiation the Starved flag says whether a creation was refused in it (R76). -/
def State.settleStarved (s : State) (index : Nat) (refused : Bool) : State :=
  s.modLink index fun l => { l with starved := refused }

/-- The state after work of a link, and whether a creation was refused in it. -/
structure Matched where
  state : State
  refused : Bool
  created : Nat

/-- A link creates a booking on an event (R75). -/
def State.createOnEvent (s : State) (l : Link) (e : Event) : Matched :=
  match s.create fun h =>
      freshBooking h l.origin e.service e.start e.stop (some e) l.priority l.prePad l.postPad (l.accurate && e.capable) with
  | none => ⟨s.starve l.index, true, 0⟩
  | some (h, s) => ⟨(s.takeFromAlternatives e.ref).offer (.seriesBooked l.index h), false, 1⟩

/-- An event is added to a booking's alternatives (R73). -/
def State.addAlternative (s : State) (b : Booking) (e : Event) : State :=
  if b.alternatives.any fun a => a.ref == e.ref then s
  else if b.alternatives.length ≥ Config.maxAlternatives then s
  else
    ((s.modBooking b.handle fun b =>
      { b with alternatives := insertAlternative e.alternative b.alternatives }).bookingChanged b.handle).noteState b.handle

/-- The main event of a booking as an alternative entry (R74, R98). -/
def Booking.mainAlternative (b : Booking) : Option Alternative :=
  b.main.map fun m => ⟨m.service, m.id, b.nominalStart, b.nominalStop⟩

/-- The old main event goes into the list when it holds fewer than 4 entries (R74, R98), after the entries of the same
start, as R98 states and R74 leaves open (log 40). -/
def Booking.withOldMain (b : Booking) (list : List Alternative) : List Alternative :=
  match b.mainAlternative with
  | some a => if list.length < Config.maxAlternatives then insertAlternative a list else list
  | none => list

/-- A Pending booking switches to an earlier airing (R74). -/
def State.switchAiring (s : State) (b : Booking) (e : Event) : State :=
  ((s.modBooking b.handle fun b =>
    { b with
      main := some e.ref
      service := e.service
      nominalStart := e.start
      nominalStop := e.stop
      tag := e.tag
      key := e.key
      alternatives := b.withOldMain (b.alternatives.filter fun a => !(a.ref == e.ref))
      items := b.items.dropReport
      replan := true }).bookingChanged b.handle).noteState b.handle

/-- The earlier nominal start, and the lowest handle among equal starts (R72). -/
def earlierBooking (x y : Booking) : Bool :=
  decide (x.nominalStart < y.nominalStart) ||
    (x.nominalStart == y.nominalStart && decide (x.handle ≤ y.handle))

/-- The chief of a link's unfinished bookings with an episode key (R72). -/
def State.chief (s : State) (index key : Nat) : Option Booking :=
  (sortBy earlierBooking (s.book.records.filter fun b =>
    b.unfinished && b.origin == .series index && b.key == some key)).head?

/-- The series link is offered the event (R70). -/
def State.offered (s : State) (l : Link) (e : Event) : Bool :=
  match l.part with
  | .series tag service _ _ =>
    e.tag == some tag && (service == none || service == some e.service) &&
      (!s.time.clockSet || decide (s.now < e.stop)) && decide (60 ≤ e.duration) && (s.mainHolder? e.ref).isNone
  | .slot _ _ _ _ _ => false

/-- A NewOnly link acts on an event with an episode key (R72). A chief in Due, Recording or Stopping is given no alternative, row 1 of R83
notwithstanding (log 49). -/
def State.matchEpisode (s : State) (l : Link) (e : Event) (key : Nat) (history : List Nat) : Matched :=
  if history.contains key then ⟨s, false, 0⟩
  else
    match s.chief l.index key with
    | none => s.createOnEvent l e
    | some c =>
      if c.planned && decide (c.nominalStart ≤ e.start) then ⟨s.addAlternative c e, false, 0⟩
      else if c.state = .pending then ⟨s.switchAiring c e, false, 0⟩
      else ⟨s, false, 0⟩

/-- One event offered to one link (R70 to R72). -/
def State.matchOne (s : State) (index : Nat) (e : Event) : Matched :=
  match s.link? index with
  | none => ⟨s, false, 0⟩
  | some l =>
    if s.offered l e then
      match l.part, e.key with
      | .series _ _ .newOnly history, some key => s.matchEpisode l e key history
      | _, _ => s.createOnEvent l e
    else ⟨s, false, 0⟩

/-- Several offers in turn to one link. -/
def State.matchAll (s : State) (index : Nat) (events : List Event) : Matched :=
  events.foldl (fun m e =>
    let n := m.state.matchOne index e
    ⟨n.state, m.refused || n.refused, m.created + n.created⟩) ⟨s, false, 0⟩

/-- The event carries the tag of the link (R76). -/
def Link.carries (l : Link) (e : Event) : Bool :=
  match l.part with
  | .series tag _ _ _ => e.tag == some tag
  | .slot _ _ _ _ _ => false

/-- A full match of a series link: every event of the table that carries its tag, in table order (R76). -/
def State.fullMatch (s : State) (index : Nat) : Matched :=
  match s.link? index with
  | none => ⟨s, false, 0⟩
  | some l =>
    let m := s.matchAll index (s.guide.filter l.carries)
    ⟨m.state.settleStarved index m.refused, m.refused, m.created⟩

/-! ## Slot links -/

/-- The eight local days today to today + 7 (R79). -/
def eightDays (today : Int) : List Int :=
  [today, today + 1, today + 2, today + 3, today + 4, today + 5, today + 6, today + 7]

/-- The occurrence of a day: its UTC start, when R79 step 3 gives one. -/
def State.occurrence (s : State) (weekdays : BitVec 7) (minute duration : Nat) (day : Int) : Option Nat :=
  if weekdays.getLsbD (weekday day) then
    match toUtc s.time.zone s.time.nextChange day minute with
    | none => none
    | some u => if u ≤ s.now ∨ maxU32 < u + duration then none else some u
  else none

/-- An occurrence entry at its place in ascending local day (R67). -/
def insertOccurrence (o : Occurrence) (list : List Occurrence) : List Occurrence :=
  insertBy (fun x y => decide (x.day < y.day)) o list

/-- The occurrence list of a link changed. -/
def State.modOccurrences (s : State) (index : Nat) (f : List Occurrence → List Occurrence) : State :=
  s.modLink index fun l =>
    match l.part with
    | .slot service weekdays minute duration occurrences =>
      { l with part := .slot service weekdays minute duration (f occurrences) }
    | .series _ _ _ _ => l

/-- The occurrence list of a link. -/
def State.occurrences (s : State) (index : Nat) : List Occurrence :=
  match s.link? index with
  | some ⟨_, _, _, _, _, _, .slot _ _ _ _ occurrences⟩ => occurrences
  | _ => []

/-- One day of an instantiation: an occurrence without entry is recorded, with the booking that already holds its start or
with a new one (R79 step 4). Where several unfinished bookings of the link hold it, the one of lowest handle is recorded (log 61). -/
def State.bookDay (s : State) (l : Link) (service : Nat) (weekdays : BitVec 7) (minute duration : Nat) (day : Int) : Matched :=
  match s.occurrence weekdays minute duration day with
  | none => ⟨s, false, 0⟩
  | some u =>
    if (s.occurrences l.index).any fun o => o.day == day then ⟨s, false, 0⟩
    else
      match s.book.records.find? fun b => b.unfinished && b.origin == .slot l.index && b.nominalStart == u with
      | some b => ⟨s.modOccurrences l.index (insertOccurrence ⟨day, b.handle⟩), false, 0⟩
      | none =>
        match s.create fun h =>
            freshBooking h (.slot l.index) service u (u + duration) none l.priority l.prePad l.postPad false with
        | none => ⟨s.starve l.index, true, 0⟩
        | some (h, s) =>
          ⟨(s.modOccurrences l.index (insertOccurrence ⟨day, h⟩)).offer (.seriesBooked l.index h), false, 1⟩

/-- One entry brought forward under a new zone: a Pending booking with its start ahead takes the new window (R80; log 35). -/
def State.retimeEntry (s : State) (l : Link) (minute duration : Nat) (o : Occurrence) : State :=
  match s.booking? o.handle with
  | none => s
  | some b =>
    if b.state = .pending ∧ b.origin = .slot l.index ∧ s.now < b.nominalStart then
      match toUtc s.time.zone s.time.nextChange o.day minute with
      | none => s
      | some u =>
        if s.now < u ∧ u ≠ b.nominalStart ∧ u + duration ≤ maxU32 then
          ((s.modBooking b.handle fun b => { b with nominalStart := u, nominalStop := u + duration, replan := true }).bookingChanged
            b.handle).noteState b.handle
        else s
    else s

/-- An instantiation of a slot link, with the retiming of R80 when a zone change asks for it (R79, R80; log 16). -/
def State.instantiate (s : State) (index : Nat) (retime : Bool) : Matched :=
  if s.time.clockSet then
    match s.link? index with
    | some l =>
      match l.part with
      | .slot service weekdays minute duration _ =>
        let today := s.today
        let s := s.modOccurrences index fun os => os.filter fun o => decide (today ≤ o.day) && decide (o.day ≤ today + 7)
        let s := if retime then (s.occurrences index).foldl (fun s o => s.retimeEntry l minute duration o) s else s
        let m := (eightDays today).foldl (fun m day =>
          let n := m.state.bookDay l service weekdays minute duration day
          ⟨n.state, m.refused || n.refused, m.created + n.created⟩) (⟨s, false, 0⟩ : Matched)
        ⟨m.state.settleStarved index m.refused, m.refused, m.created⟩
      | .series _ _ _ _ => ⟨s, false, 0⟩
    | none => ⟨s, false, 0⟩
  else ⟨s, false, 0⟩

/-- Every slot link instantiated, in ascending index (R79, R80). -/
def State.instantiateAll (s : State) (retime : Bool) : State :=
  s.links.foldl (fun s l => (s.instantiate l.index retime).state) s

/-- A retry of a Starved link: a full match for a series link, an instantiation for a slot link (R76). -/
def State.retry (s : State) (index : Nat) : State :=
  match s.link? index with
  | none => s
  | some l =>
    match l.part with
    | .series _ _ _ _ => (s.fullMatch index).state
    | .slot _ _ _ _ _ => (s.instantiate index false).state

/-- Every Starved link retried, in ascending index (R76). -/
def State.retryStarved (s : State) : State :=
  (s.links.filter (·.starved)).foldl (fun s l => s.retry l.index) s

/-! ## A batch's events (R70, R76) -/

/-- The events handed over matched: each event in table order to the links in ascending index; the links Starved before get a
full match in place of it when an event carries their tag (R70, R76; log 11). -/
def State.matchBatch (s : State) (events : List Event) : State :=
  let starved := s.links.filter fun l => l.starved
  let plain := s.links.filter fun l => !l.starved
  let s := events.foldl (fun s e => plain.foldl (fun s l => (s.matchOne l.index e).state) s) s
  let hungry := starved.filter fun l => events.any l.carries
  hungry.foldl (fun s l => (s.fullMatch l.index).state) s

/-! ## History (R77) -/

/-- The history with a key appended, the oldest of 25 removed; a key already there keeps its place (R77). -/
def pushKey (key : Nat) (history : List Nat) : List Nat :=
  if history.contains key then history
  else
    let longer := history ++ [key]
    if Config.maxHistory < longer.length then longer.tail else longer

/-- The outcome adds the key: Completed, or Partial with nine tenths recorded (R77). -/
def Booking.earnsHistory (b : Booking) (v : Verdict) : Bool :=
  v.kind == .completed ||
    (v.kind == .partially && decide ((b.nominalStop - b.nominalStart) * 9 ≤ b.recordedSeconds * 10))

/-- The Series Matcher is told of a finish: the history of the booking's link (R77). -/
def State.keepHistory (s : State) (b : Booking) (v : Verdict) : State :=
  match b.origin, b.key with
  | .series index, some key =>
    if b.earnsHistory v then
      s.modLink index fun l =>
        match l.part with
        | .series tag service policy history => { l with part := .series tag service policy (pushKey key history) }
        | .slot _ _ _ _ _ => l
    else s
  | _, _ => s

end Sys2Proof.Machine
end

