-- ==== Sys2Proof/Machine/Tuners.lean ====
section
/-! DEFINITION. The Tuner Monitor's operations (07_tuner_conditions_live_viewing_and_feed_faults.md): the in-use rule
(R142), changes of condition with their notice and their gaps (R134, R152, R153), arrivals and retuning (R147), fault
latches (R149, R150). -/

namespace Sys2Proof.Machine

/-- One tuner's items (R140). -/
def State.tuner (s : State) : TunerId → Tuner
  | .a => s.monitor.a
  | .b => s.monitor.b

/-- One tuner's items changed. -/
def State.setTuner (s : State) (x : TunerId) (t : Tuner) : State :=
  match x with
  | .a => s.setMonitor { s.monitor with a := t }
  | .b => s.setMonitor { s.monitor with b := t }

/-- The level of a tuner's lock line. -/
def State.lockLine (s : State) : TunerId → Bool
  | .a => s.lines.lockA
  | .b => s.lines.lockB

/-- The level of a tuner's fault line. -/
def State.faultLine (s : State) : TunerId → Bool
  | .a => s.lines.faultA
  | .b => s.lines.faultB

/-- A lock line taken at a new level. -/
def State.setLockLine (s : State) (x : TunerId) (level : Bool) : State :=
  match x with
  | .a => s.setLines { s.lines with lockA := level }
  | .b => s.setLines { s.lines with lockB := level }

/-- A fault line taken at a new level. -/
def State.setFaultLine (s : State) (x : TunerId) (level : Bool) : State :=
  match x with
  | .a => s.setLines { s.lines with faultA := level }
  | .b => s.setLines { s.lines with faultB := level }

/-- The length of the loss count (R144). -/
def Settings.lossLength (v : Settings) : Nat := if v.lossExtended then 10 else 2

/-- Lost or Faulted: the gap conditions (R134). -/
def Condition.gapping : Condition → Bool
  | .lost => true
  | .faulted => true
  | _ => false

/-! ## The in-use rule (R142) -/

/-- A span that is not empty; an open span never is (R142). -/
def LivePlacement.carries (p : LivePlacement) : Bool :=
  match p.stop with
  | none => true
  | some e => decide (p.start < e)

/-- The live placement that names a tuner with a span that is not empty (R142). -/
def State.liveOn (s : State) (x : TunerId) : Option LivePlacement :=
  match s.monitor.live with
  | some c =>
    match c.placement with
    | some p => if p.tuner = x ∧ p.carries = true then some p else none
    | none => none
  | none => none

/-- The bookings in Due, Recording or Stopping whose placement names a tuner (R142). -/
def State.pinnedOn (s : State) (x : TunerId) : List Booking :=
  s.book.records.filter fun b => b.pinned && b.placement.tuner? == some x

/-- A tuner is in use (R142). -/
def State.inUse (s : State) (x : TunerId) : Bool :=
  s.wake.host == .up && (!(s.pinnedOn x).isEmpty || (s.liveOn x).isSome)

/-- An item a tuner carries: its effective start, its rank among equal starts, its multiplex (R142). -/
structure Carried where
  start : Nat
  rank : Nat
  mux : Nat

/-- The later effective start; among equal starts the higher rank (R142). -/
def Carried.later (x y : Carried) : Carried :=
  if x.start < y.start ∨ (x.start = y.start ∧ x.rank < y.rank) then y else x

/-- The multiplex a tuner coming into use takes: that of the item with the latest effective start; among equal starts the live
claim, then the booking with the highest handle (R142). -/
def State.tunedFor (s : State) (x : TunerId) : Option Nat :=
  let bookings := (s.pinnedOn x).map fun b =>
    (⟨b.placement.start?.getD 0, b.handle, muxOf s.catalogue.services b.service⟩ : Carried)
  let live := match s.liveOn x with
    | some p => [(⟨p.start, 65536, p.mux⟩ : Carried)]
    | none => []
  match bookings ++ live with
  | [] => none
  | c :: cs => some (cs.foldl Carried.later c).mux

/-! ## Gaps (R134, R136) -/

/-- A gap begins for a booking (R134, R135), by Restart for one that is not Recording too (R137; log 63). -/
def State.beginGap (s : State) (h : Nat) : State :=
  let limit := s.settings.gapLimit
  s.modBooking h fun b =>
    { b with
      gapCount := min (b.gapCount + 1) 65535
      flags := { b.flags with gaps := true }
      items := { b.items with inGap := true, failover := limit } }

/-- A booking's gap ends (R134). -/
def State.endGap (s : State) (h : Nat) : State := s.modItems h fun i => { i with inGap := false, failover := 0 }

/-- A booking's gap ends because its tuner left Lost and Faulted: an undelivered Move is withdrawn, a delivered one kept
(R136). -/
def State.endGapOfTuner (s : State) (h : Nat) : State :=
  let s := s.endGap h
  if s.holdsUndelivered h .move then (s.modItems h fun i => { i with moveTarget := none }).removeOrder h else s

/-- The Order Unit is told of an entry into Lost or Faulted: a gap begins for each booking Recording on the tuner that is in
none (R134, R152). -/
def State.gapsBegin (s : State) (x : TunerId) : State :=
  (s.book.records.filter fun b =>
    b.state == .recording && b.placement.tuner? == some x && !b.items.inGap).foldl (fun s b => s.beginGap b.handle) s

/-- The Order Unit is told of an exit from Lost and Faulted: the gap of each booking Recording on the tuner ends (R134, R152). -/
def State.gapsEnd (s : State) (x : TunerId) : State :=
  (s.book.records.filter fun b =>
    b.state == .recording && b.placement.tuner? == some x && b.items.inGap).foldl (fun s b => s.endGapOfTuner b.handle) s

/-! ## Changes of a tuner (R152, R153) -/

/-- A tuner changes: its items, its change latch, the TunerChange notice, and what the Order Unit is told (R152, R153). -/
def State.changeTuner (s : State) (x : TunerId) (new : Tuner) (cause : ChangeCause) : State :=
  let old := s.tuner x
  let s := s.setTuner x { new with changeLatch := true }
  let s := s.offer (.tunerChange x new.condition new.faultLatch new.tuned cause)
  if new.condition.gapping && !old.condition.gapping then s.gapsBegin x
  else if old.condition.gapping && !new.condition.gapping then s.gapsEnd x
  else s

/-- Tuning with a new grace count and no other count (R143, R147, R151). -/
def Tuner.tuning (t : Tuner) : Tuner :=
  { t with condition := .tuning, grace := some 0, loss := none, regain := none }

/-- A condition with no count running. -/
def Tuner.still (t : Tuner) (c : Condition) : Tuner :=
  { t with condition := c, grace := none, loss := none, regain := none }

/-- A tuner comes into use (R143). -/
def State.comeIntoUse (s : State) (x : TunerId) : State :=
  let t := { s.tuner x with tuned := s.tunedFor x }
  s.changeTuner x (if t.faultLatch then t.still .faulted else t.tuning) .use

/-- A tuner goes out of use (R148). -/
def State.goOutOfUse (s : State) (x : TunerId) : State :=
  s.changeTuner x { (s.tuner x).still .unused with tuned := none } .release

/-- The in-use rule evaluated for one tuner (R142). -/
def State.evaluateUse (s : State) (x : TunerId) : State :=
  if (s.tuner x).condition = .unused then
    if s.inUse x then s.comeIntoUse x else s
  else
    if s.inUse x then s else s.goOutOfUse x

/-- The in-use rule evaluated for both tuners (R142), A first (log 53). -/
def State.evaluateTuners (s : State) : State := (s.evaluateUse .a).evaluateUse .b

/-- An item arrives on a tuner in use: with another multiplex the tuner retunes (R147). A tuner that is not in use, or no longer after the
change, is left to the in-use rule (R142). -/
def State.arrive (s : State) (x : TunerId) (mux : Nat) : State :=
  let t := s.tuner x
  if t.condition = .unused ∨ s.inUse x = false ∨ t.tuned = some mux then s
  else if t.condition = .faulted then s.setTuner x { t with tuned := some mux }
  else s.changeTuner x { t.tuning with tuned := some mux } .retune

/-- A booking's arrival on the tuner of its placement, and the in-use rule after it (R142, R147). -/
def State.bookingArrives (s : State) (h : Nat) : State :=
  match s.booking? h with
  | none => s
  | some b =>
    match b.placement.tuner? with
    | none => s.evaluateTuners
    | some x => (s.arrive x (muxOf s.catalogue.services b.service)).evaluateTuners

/-! ## Fault latches (R149) -/

/-- A fault latch is set: an in-use tuner enters Faulted; the Planner gets its trigger (R149). A latch already set stays. -/
def State.setLatch (s : State) (x : TunerId) : State :=
  let t := s.tuner x
  if t.faultLatch then s
  else
    let t := { t with faultLatch := true }
    (s.changeTuner x (if t.condition = .unused then t else t.still .faulted) .fault).trigger

/-- A fault line rises (R149). -/
def State.faultRises (s : State) (x : TunerId) : State :=
  match x with
  | .a =>
    let s := s.setLatch .a
    if s.settings.feedMode = .loopThrough then s.setLatch .b else s
  | .b => s.setLatch .b

end Sys2Proof.Machine
end

