-- ==== Sys2Proof/Machine/Lifecycle.lean ====
section
/-! DEFINITION. The lifecycle of a booking (R46): finishing (R47), entry into Due (R117), opening (R116), the end rule
(R131), running status taking effect (R130), removal of Finished records (R62, R63). -/

namespace Sys2Proof.Machine

/-! ## Finishing (R47) -/

/-- The record of a booking that enters Finished: outcome, finished at, placement None, StopUnconfirmed, the Order Unit's items
dropped (R47, R121). -/
def Booking.finished (b : Booking) (v : Verdict) (unconfirmed : Bool) (now : Nat) : Booking :=
  { b with
    state := .finished
    verdict := some v
    finishedAt := some now
    placement := .none
    flags := { b.flags with stopUnconfirmed := b.flags.stopUnconfirmed || unconfirmed }
    items := .empty
    replan := false }

/-- A handle leaves the abandon list (R168). -/
def State.leaveAbandon (s : State) (h : Nat) : State :=
  s.setWake { s.wake with abandon := s.wake.abandon.filter fun x => x != h }

/-- A booking enters Finished, all but the in-use rule: the record, its BookingState notice with the causes of its last
placement, the pass trigger, the order withdrawn, the history and the retries of Starved links (R47, R121, R168, R77, R76). -/
def State.finishCore (s : State) (h : Nat) (v : Verdict) (unconfirmed : Bool) : State :=
  match s.booking? h with
  | none => s
  | some b =>
    let done := b.finished v unconfirmed s.now
    let causes := if v = ⟨.missed, .clash⟩ then b.placement.causes else .none
    let s := s.modBooking h fun _ => done
    let s := s.offer (.bookingState h (done.report causes))
    let s := (s.bookingChanged h).removeOrder h
    ((s.leaveAbandon h).keepHistory done v).retryStarved

/-- A booking enters Finished, and the in-use rule is evaluated again (R47, R142), after the retries of Starved links (log 27). -/
def State.finish (s : State) (h : Nat) (v : Verdict) (unconfirmed : Bool) : State :=
  (s.finishCore h v unconfirmed).evaluateTuners

/-- A booking finishes with the outcome by R48. -/
def State.finishByOutcome (s : State) (h : Nat) (reason : Reason) (unconfirmed : Bool) : State :=
  match s.booking? h with
  | none => s
  | some b => s.finish h (b.outcome reason) unconfirmed

/-- Finished records removed from the table; when there are any, Starved links are retried at once (R62, R63, R76), ahead of a retry at a
finish that falls at the same instant (R83; log 56). -/
def State.removeRecords (s : State) (old : Booking → Bool) : State :=
  if s.book.records.any old then
    (s.setBook { s.book with records := s.book.records.filter fun b => !old b }).retryStarved
  else s

/-! ## Entry into Due and Armed (R116, R117) -/

/-- A booking enters Due: LateStart when its placement is late and the entry is not Restart's, the Start order of attempt 1,
the BookingState notice, the arrival on its tuner (R116, R117, R147). At Restart the Tuner Monitor evaluates its rule once, at the
end (R211 step 6). -/
def State.enterDue (s : State) (h : Nat) (onRunning resumed : Bool) : State :=
  match s.booking? h with
  | none => s
  | some b =>
    let s := s.modBooking h fun b =>
      { b with state := .due, flags := { b.flags with lateStart := b.flags.lateStart || (b.late && !resumed) } }
    let s := s.leavesPlan h
    let s := (s.issue .start h b.placement.tuner? 1 onRunning).noteState h
    if resumed then s else s.bookingArrives h

/-- The report record holds a report taken at or after now − 600 (R116). -/
def Booking.reportedLately (b : Booking) (now : Nat) : Option Report :=
  match b.items.report with
  | some r => if now ≤ r.time + Config.reportSeconds then some r else none
  | none => none

/-- A booking opens: to Armed with a candidate when it is accurate, holds a main event and a recent report and no Running
instant; otherwise to Due, with TimedFallback when it is accurate without a Running instant (R116). -/
def State.openBooking (s : State) (h : Nat) (resumed : Bool) : State :=
  match s.booking? h with
  | none => s
  | some b =>
    if b.accurate ∧ b.items.runningAt = none then
      match b.main, b.reportedLately s.now with
      | some _, some r =>
        let s := s.modBooking h fun b =>
          { b with state := .armed, items := { b.items with candidate := some ⟨r.status, .zero, false⟩ } }
        (s.opensInPass).noteState h
      | _, _ =>
        let s := s.modBooking h fun b =>
          { b with flags := { b.flags with timedFallback := true }, items := b.items.dropReport }
        s.enterDue h false resumed
    else s.enterDue h false resumed

/-- A Pending booking is opened: placed, the clock set, the step hold clear, now at or after its effective start (R116); one whose
times were changed since waits for the placement of the pass that follows (R40, R65, R83; log 38). -/
def State.canOpen (s : State) (b : Booking) : Bool :=
  b.state == .pending && !b.replan && s.time.clockSet && s.orders.stepHold.isNone &&
    (match b.placement.start? with
      | some a => decide (a ≤ s.now)
      | none => false)

/-- The opening test for one booking (R116). -/
def State.testOpening (s : State) (h : Nat) : State :=
  match s.booking? h with
  | none => s
  | some b => if s.canOpen b then s.openBooking h false else s

/-- A booking goes back to Pending (R36, R37, R57, R99); the Order Unit drops its candidate. -/
def State.backToPending (s : State) (h : Nat) : State :=
  (s.modBooking h fun b => { b with state := .pending, items := b.items.dropCandidate }).noteState h

/-! ## The end of a recording (R131) -/

/-- The end rule for a Recording booking (R131). -/
def State.endRule (s : State) (h : Nat) : State :=
  match s.booking? h with
  | none => s
  | some b =>
    if b.timed then s.stop h .schedule false
    else if b.items.overrun = .truncated then s.stop h .overrun true
    else if s.slackEnd b ≤ s.now then s.stop h .slack false
    else
      match b.placement.stop? with
      | none => s
      | some e => (s.modItems h fun i => { i with overrun := .opened e (min (s.slackEnd b) maxU32) }).trigger

/-- The end rule where its claim is not Open already: a claim once opened waits for its result (R131, R133; log 20). -/
def State.endRuleUnlessOpen (s : State) (h : Nat) : State :=
  match s.booking? h with
  | none => s
  | some b => if b.items.overrun.isOpen then s else s.endRule h

/-! ## Running status (R130) -/

/-- A booking with NotRunning taken effect stops (R130). -/
def State.notRunningStops (s : State) (h : Nat) : State :=
  let now := s.now
  (s.modItems h fun i => { i with notRunningAt := some now }).stop h .schedule false

/-- A status takes effect, by the booking's state (R130). Running for an Armed booking that is not placed, or whose effective end
is at or before now, leaves no Running instant (log 43). -/
def State.takeEffect (s : State) (b : Booking) (status : RunStatus) : State :=
  match status, b.state with
  | .running, .armed =>
    match b.placement.stop? with
    | some e =>
      if s.now < e then
        let now := s.now
        (s.modItems b.handle fun i => { i with runningAt := some now, firstAttempt := false }).enterDue b.handle true false
      else s
    | none => s
  | .notRunning, .recording => if b.items.runningAt.isSome then s.notRunningStops b.handle else s
  | _, _ => s

/-- A candidate's hold completes (R129). -/
def State.completeHold (s : State) (h : Nat) : State :=
  match s.booking? h with
  | none => s
  | some b =>
    match b.items.candidate with
    | none => s
    | some c => (s.modItems h fun i => { i with candidate := some { c with taken := true } }).takeEffect b c.status

/-- A booking's candidate, its effect not yet taken, has a count as given (R129). -/
def Booking.holds (b : Booking) (test : Count → Bool) : Bool := b.items.candidate.any fun c => !c.taken && test c.held

/-! ## The AccurateSlack end (R132) -/

/-- A Recording booking to which R132 applies. -/
def Booking.followsStatus (b : Booking) : Bool :=
  b.accurate && !b.flags.timedFallback && b.items.runningAt.isSome

/-- nominal end + AccurateSlack is reached by an Armed or Recording booking of R132; one that enters Recording after that instant has
reached it as well (log 51). -/
def State.slackReached (s : State) (b : Booking) : Bool :=
  s.time.clockSet && decide (s.slackEnd b ≤ s.now) &&
    (b.state == .armed || (b.state == .recording && b.followsStatus))

/-- The AccurateSlack end of one booking (R132). -/
def State.slackRule (s : State) (h : Nat) : State :=
  match s.booking? h with
  | none => s
  | some b =>
    if s.slackReached b then
      if b.state = .armed then s.finish h ⟨.missed, .neverRan⟩ false else s.stop h .slack false
    else s

/-- A rule applied to every record's handle in ascending order. -/
def State.eachBooking (s : State) (rule : State → Nat → State) : State := s.handles.foldl rule s

end Sys2Proof.Machine
end

