-- ==== Sys2Proof/Machine/Conflict.lean ====
section
/-! DEFINITION. The conflict test (R93, R94), sharing (R95), and the placing of one window by phases 1 and 2 (R96, R97).
The laid occupancies change only at their starts and ends, so the kinds of conflict are constant from one such instant to the
next, and a window is tested at its own start and at those of them inside it. -/

namespace Sys2Proof.Machine

/-- What the conflict test reads: the occupancies laid, the quadrants, the feed mode, the fault latches (R88, R93). -/
structure Ground where
  laid : List Occupancy
  muxes : List Mux
  feedMode : FeedMode
  faultA : Bool
  faultB : Bool

/-- The union of two cause sets. -/
def Causes.union (x y : Causes) : Causes :=
  ⟨x.slots || y.slots, x.multiplex || y.multiplex, x.quadrant || y.quadrant, x.fault || y.fault, x.live || y.live⟩

/-- At least one kind of conflict. -/
def Causes.any (c : Causes) : Bool := c.slots || c.multiplex || c.quadrant || c.fault || c.live

/-- The occupancy's span contains an instant (R90). -/
def Occupancy.carries (o : Occupancy) (t : Nat) : Bool :=
  decide (o.start ≤ t) && (match o.stop with
    | none => true
    | some e => decide (t < e))

/-- A recording occupancy uses a record slot (R90). -/
def OccupancyKind.recording : OccupancyKind → Bool
  | .live => false
  | _ => true

/-- A tuner is excluded by a fault latch (R93, R94). -/
def Ground.faulted (g : Ground) (x : TunerId) : Bool :=
  match x with
  | .a => g.faultA
  | .b => g.faultB || (g.feedMode == .loopThrough && g.faultA)

/-- The kinds of conflict for an item of a multiplex on a tuner at an instant (R93). -/
def Ground.kindsAt (g : Ground) (x : TunerId) (recording : Bool) (mux t : Nat) : Causes :=
  let onX := g.laid.filter fun o => o.tuner == x && o.carries t
  let onY := g.laid.filter fun o => o.tuner == otherTuner x && o.carries t
  let others := onX.filter fun o => o.mux != mux
  let apart :=
    if g.feedMode = .loopThrough then onY.filter fun o => quadrantOf g.muxes o.mux != quadrantOf g.muxes mux else []
  let othersLive := others.all fun o => o.kind == .live
  let apartLive := apart.all fun o => o.kind == .live
  { slots := recording && decide (Config.recordSlots ≤ (onX.filter fun o => o.kind.recording).length)
    multiplex := !others.isEmpty && !othersLive
    quadrant := !apart.isEmpty && !apartLive
    fault := g.faulted x
    live := (!others.isEmpty && othersLive) || (!apart.isEmpty && apartLive) }

/-- The instants at which the laid occupancies start or end. -/
def Ground.edges (g : Ground) : List Nat := g.laid.flatMap fun o => o.start :: o.stop.toList

/-- An instant lies before the end of a window; an open window has none. -/
def beforeEnd (t : Nat) : Option Nat → Bool
  | none => true
  | some e => decide (t < e)

/-- A list in ascending order without repetition. -/
def ascending (xs : List Nat) : List Nat :=
  xs.foldr (fun x ys => if ys.contains x then ys else insertBy (fun a b => decide (a ≤ b)) x ys) []

/-- The instants at which a window is tested: its start and the edges inside it; none when it is empty. -/
def Ground.instants (g : Ground) (start : Nat) (stop : Option Nat) : List Nat :=
  if beforeEnd start stop then ascending (start :: g.edges.filter fun t => decide (start < t) && beforeEnd t stop) else []

/-- The kinds met in a window (R99). -/
def Ground.kindsIn (g : Ground) (x : TunerId) (recording : Bool) (mux start : Nat) (stop : Option Nat) : Causes :=
  (g.instants start stop).foldl (fun c t => c.union (g.kindsAt x recording mux t)) .none

/-- The first conflict instant of a window (R93). -/
def Ground.firstConflict (g : Ground) (x : TunerId) (recording : Bool) (mux start : Nat) (stop : Option Nat) : Option Nat :=
  (g.instants start stop).find? fun t => (g.kindsAt x recording mux t).any

/-- A window without conflict. -/
def Ground.free (g : Ground) (x : TunerId) (mux start stop : Nat) : Bool :=
  (g.firstConflict x true mux start (some stop)).isNone

/-- The end of the last stretch of conflict in a list of tested instants, the window's end closing the last of them. -/
def lastConflictEnd (conflict : Nat → Bool) (stop : Nat) : List Nat → Option Nat
  | [] => none
  | [t] => if conflict t then some stop else none
  | t :: u :: rest =>
    match lastConflictEnd conflict stop (u :: rest) with
    | some e => some e
    | none => if conflict t then some u else none

/-- The end of the last conflict run that has an instant in a window after which no conflict follows (R97). -/
def Ground.lastRunEnd (g : Ground) (x : TunerId) (mux start stop : Nat) : Option Nat :=
  lastConflictEnd (fun t => (g.kindsAt x true mux t).any) stop (g.instants start (some stop))

/-- A tuner shares over a window: it carries at some instant of it an occupancy of the multiplex (R95). -/
def Ground.shares (g : Ground) (x : TunerId) (mux start stop : Nat) : Bool :=
  g.laid.any fun o => o.tuner == x && o.mux == mux && (match o.stop with
    | none => decide (max o.start start < stop)
    | some e => decide (max o.start start < min e stop))

/-- Between two tuners otherwise equal: the one that shares, and A when both or neither do (R96, R97). -/
def preferred (sharesA sharesB : Bool) : TunerId := if sharesB && !sharesA then .b else .a

/-- The windows of an item to place: padded start, nominal start, nominal end, padded end, and the multiplex. -/
structure Trial where
  padStart : Nat
  nomStart : Nat
  nomStop : Nat
  padStop : Nat
  mux : Nat

/-- Where a trial was placed: tuner, effective window, and whether in the trimmed phase. -/
structure Spot where
  tuner : TunerId
  start : Nat
  stop : Nat
  trimmed : Bool

/-- Phase 1, full (R96). -/
def Ground.phase1 (g : Ground) (t0 : Nat) (w : Trial) : Option Spot :=
  let start := max w.padStart t0
  let freeA := g.free .a w.mux start w.padStop
  let freeB := g.free .b w.mux start w.padStop
  if freeA && freeB then
    some ⟨preferred (g.shares .a w.mux start w.padStop) (g.shares .b w.mux start w.padStop), start, w.padStop, false⟩
  else if freeA then some ⟨.a, start, w.padStop, false⟩
  else if freeB then some ⟨.b, start, w.padStop, false⟩
  else none

/-- The effective window of phase 2 on one tuner, where it does not fail (R97). -/
def Ground.trimmed (g : Ground) (t0 : Nat) (w : Trial) (x : TunerId) : Option (Nat × Nat) :=
  if g.free x w.mux (max w.nomStart t0) w.nomStop then
    let start := max (max w.padStart t0) ((g.lastRunEnd x w.mux (max w.padStart t0) w.nomStart).getD 0)
    let stop := (g.firstConflict x true w.mux (max w.nomStop t0) (some w.padStop)).getD w.padStop
    if start < stop then some (start, stop) else none
  else none

/-- Phase 2, trimmed: the longer effective window, then sharing, then A (R97). -/
def Ground.phase2 (g : Ground) (t0 : Nat) (w : Trial) : Option Spot :=
  match g.trimmed t0 w .a, g.trimmed t0 w .b with
  | none, none => none
  | some (a, e), none => some ⟨.a, a, e, true⟩
  | none, some (a, e) => some ⟨.b, a, e, true⟩
  | some (a, e), some (c, f) =>
    if e - a < f - c then some ⟨.b, c, f, true⟩
    else if f - c < e - a then some ⟨.a, a, e, true⟩
    else
      match preferred (g.shares .a w.mux a e) (g.shares .b w.mux c f) with
      | .a => some ⟨.a, a, e, true⟩
      | .b => some ⟨.b, c, f, true⟩

/-- Phase 1 and then phase 2 on one trial (R96 to R98). -/
def Ground.placeTrial (g : Ground) (t0 : Nat) (w : Trial) : Option Spot :=
  match g.phase1 t0 w with
  | some spot => some spot
  | none => g.phase2 t0 w

/-- The cause set of a booking left unplaced: the kinds met on either tuner over its nominal part, or over its padded window
when that part is empty (R99). -/
def Ground.causesOf (g : Ground) (t0 : Nat) (w : Trial) : Causes :=
  let part := max w.nomStart t0
  let window := if part < w.nomStop then (part, w.nomStop) else (max w.padStart t0, w.padStop)
  (g.kindsIn .a true w.mux window.1 (some window.2)).union (g.kindsIn .b true w.mux window.1 (some window.2))

/-! ## Tests against the plan as last written (R58, R127, R135) -/

/-- The ground of a test made now with the plan as last written, the latches and the feed mode as they stand. -/
def State.groundNow (s : State) (laid : List Occupancy) (faults : Bool) : Ground :=
  { laid := laid
    muxes := s.catalogue.muxes
    feedMode := s.settings.feedMode
    faultA := faults && s.monitor.a.faultLatch
    faultB := faults && s.monitor.b.faultLatch }

/-- The tuner a booking holding a Move is taken on: its target tuner (R135). -/
def State.moveTunerOf (s : State) (h : Nat) : Option TunerId :=
  match s.orderOf h with
  | some o => if o.kind = .move then o.tuner else none
  | none => none

/-- The plan a failover test reads: the booking's own occupancy left out, every booking holding a Move taken on its target tuner
(R135; log 36). -/
def State.failoverGround (s : State) (h : Nat) : Ground :=
  s.groundNow ((s.planner.plan.filter fun o => o.kind == .live || o.handle != h).map fun o =>
    if o.kind = .live then o
    else
      match s.moveTunerOf o.handle with
      | some t => { o with tuner := t }
      | none => o) true

/-- The target effective end of a failover test on the other tuner, where it succeeds (R135). -/
def State.failoverTarget (s : State) (b : Booking) (x : TunerId) (stop : Nat) : Option MoveTarget :=
  let y := otherTuner x
  if (s.tuner y).condition.gapping then none
  else
    let g := s.failoverGround b.handle
    let mux := muxOf s.catalogue.services b.service
    if g.free y mux s.now stop then some ⟨y, stop⟩
    else if g.free y mux s.now (max s.now b.nominalStop) then
      match g.firstConflict y true mux (max s.now b.nominalStop) none with
      | some c => some ⟨y, min stop c⟩
      | none => some ⟨y, stop⟩
    else none

/-- The pinned occupancies of the plan as last written but a booking's own, the ground of R58: Slots, Multiplex and Quadrant
kinds only. -/
def State.pinnedGround (s : State) (h : Nat) : Ground :=
  s.groundNow (s.planner.plan.filter fun o =>
    o.kind != .live && o.handle != h &&
      (match s.booking? o.handle with
        | some b => b.pinned
        | none => false)) false

/-- The effective end of a Recording booking whose padded end becomes later: the new padded end, or the first conflict instant
before it (R58). -/
def State.longerEnd (s : State) (b : Booking) (x : TunerId) (old new : Nat) : Nat :=
  ((s.pinnedGround b.handle).firstConflict x true (muxOf s.catalogue.services b.service) (max old s.now) (some new)).getD new

end Sys2Proof.Machine
end

