-- ==== Sys2Proof/Machine/Planner.lean ====
section
/-! DEFINITION. The computation of a placement pass from what it read at T₀ (R88 to R103). -/

namespace Sys2Proof.Machine

/-- A ranked item: a booking, an overrun claim with its span and its owner, the live claim (R92). -/
inductive RankedItem where
  | booking (b : Booking)
  | claim (owner : Booking) (tuner : TunerId) (start stop : Nat)
  | live (mux : Nat) (named : TunerId)

/-- The result of a pass for one booking in Pending or Armed (R96 to R100). `trimmed = none` leaves PaddingTrimmed as it is;
`ranked` is false for a booking whose padded end is at or before T₀ (R92). -/
structure BookingResult where
  handle : Nat
  placement : Placement
  late : Bool
  trimmed : Option Bool
  choice : Option Alternative
  ranked : Bool
  deriving DecidableEq, Repr

/-- The result of a pass for one overrun claim: the owner's new effective end (R103). The claim is named by its span. -/
structure ClaimResult where
  handle : Nat
  start : Nat
  stop : Nat
  newEnd : Nat
  full : Bool
  deriving DecidableEq, Repr

/-- What a pass has laid and found so far. -/
structure PassResult where
  laid : List Occupancy
  bookings : List BookingResult
  claims : List ClaimResult
  live : Option LivePlacement
  deriving DecidableEq, Repr

/-- The ground of the pass with what is laid so far. -/
def Pass.ground (p : Pass) (laid : List Occupancy) : Ground :=
  ⟨laid, p.muxes, p.feedMode, p.latchA, p.latchB⟩

/-- The rank key of R92: priority descending, padded start ascending, handle ascending. -/
structure Rank where
  priority : Nat
  start : Nat
  handle : Nat

/-- Rank order (R92). -/
def Rank.before (x y : Rank) : Bool :=
  decide (y.priority < x.priority) ||
    (x.priority == y.priority && (decide (x.start < y.start) || (x.start == y.start && decide (x.handle ≤ y.handle))))

/-- The rank of a booking; for a pinned booking the same key, as the blockers use it (R92, R104). -/
def Booking.rank (b : Booking) : Rank := ⟨b.priority, b.paddedStart, b.handle⟩

/-- The rank of an item; the live claim has none (R92). -/
def RankedItem.rank : RankedItem → Rank
  | .booking b => b.rank
  | .claim b _ start _ => ⟨b.priority, start, b.handle⟩
  | .live _ _ => ⟨0, 0, 0⟩

/-- The bookings ranked: Pending or Armed with the padded end after T₀ (R92). -/
def Pass.rankedBookings (p : Pass) : List RankedItem :=
  (p.bookings.filter fun b => b.planned && decide (p.t0 < b.paddedStop)).map .booking

/-- The overrun claims the Order Unit holds at T₀: from the owner's effective end to the claim end (R103; log 25). -/
def Pass.claims (p : Pass) : List RankedItem :=
  p.bookings.filterMap fun b =>
    match b.state, b.items.overrun, b.placement with
    | .recording, .opened _ stop, .placed x _ e => some (.claim b x e stop)
    | _, _, _ => none

/-- The live claim put before the first item of a priority below LiveRank, or last (R92). -/
def placeLive (liveRank : Nat) (live : RankedItem) : List RankedItem → List RankedItem
  | [] => [live]
  | i :: is => if i.rank.priority < liveRank then live :: i :: is else i :: placeLive liveRank live is

/-- All ranked items in rank order (R92). -/
def Pass.items (p : Pass) : List RankedItem :=
  let sorted := sortBy (fun x y => x.rank.before y.rank) (p.rankedBookings ++ p.claims)
  match p.live with
  | some (mux, named) => placeLive p.liveRank (.live mux named) sorted
  | none => sorted

/-- The occupancy of a pinned booking: its tuner over [T₀, effective end), nothing when that is empty (R91). -/
def Pass.pinnedOccupancy (p : Pass) (b : Booking) : List Occupancy :=
  match b.placement with
  | .placed x _ e =>
    if b.pinned && decide (p.t0 < e) then
      [⟨x, muxOf p.services b.service, p.t0, some e, .booking, b.handle⟩]
    else []
  | _ => []

/-- The pinned bookings laid, before any ranked item (R91). -/
def Pass.pinned (p : Pass) : List Occupancy := p.bookings.flatMap p.pinnedOccupancy

/-- The trial of a booking's own window (R96). -/
def Pass.ownTrial (p : Pass) (b : Booking) : Trial :=
  ⟨b.paddedStart, b.nominalStart, b.nominalStop, b.paddedStop, muxOf p.services b.service⟩

/-- The trial of an alternative: its window with the booking's own padding, its service's multiplex (R98). -/
def Pass.trialOf (p : Pass) (b : Booking) (a : Alternative) : Trial :=
  ⟨padStart a.start b.prePad, a.start, a.stop, padStop a.stop b.postPad, muxOf p.services a.service⟩

/-- Phase 3: the first alternative that places, those that end at or before T₀ skipped (R98). -/
def Pass.tryAlternatives (p : Pass) (g : Ground) (b : Booking) : List Alternative → Option (Alternative × Spot)
  | [] => none
  | a :: rest =>
    if a.stop ≤ p.t0 then p.tryAlternatives g b rest
    else
      match g.placeTrial p.t0 (p.trialOf b a) with
      | some spot => some (a, spot)
      | none => p.tryAlternatives g b rest

/-- A placement is late when its effective start equals T₀ and T₀ is after the padded start (R100). -/
def lateMark (t0 start padStart : Nat) : Bool := start == t0 && decide (padStart < t0)

/-- A ranked booking placed by the four phases (R96 to R99). -/
def Pass.placeBooking (p : Pass) (r : PassResult) (b : Booking) : PassResult :=
  let g := p.ground r.laid
  let own := p.ownTrial b
  match g.placeTrial p.t0 own with
  | some spot =>
    { r with
      laid := r.laid ++ [⟨spot.tuner, own.mux, spot.start, some spot.stop, .booking, b.handle⟩]
      bookings := r.bookings ++ [⟨b.handle, .placed spot.tuner spot.start spot.stop,
        lateMark p.t0 spot.start own.padStart, some spot.trimmed, none, true⟩] }
  | none =>
    match (if b.main.isSome then p.tryAlternatives g b b.alternatives else none) with
    | some (a, spot) =>
      let trial := p.trialOf b a
      { r with
        laid := r.laid ++ [⟨spot.tuner, trial.mux, spot.start, some spot.stop, .booking, b.handle⟩]
        bookings := r.bookings ++ [⟨b.handle, .placed spot.tuner spot.start spot.stop,
          lateMark p.t0 spot.start trial.padStart, some spot.trimmed, some a, true⟩] }
    | none =>
      { r with bookings := r.bookings ++ [⟨b.handle, .unplaced (g.causesOf p.t0 own), false, none, none, true⟩] }

/-- An overrun claim tested on its owner's tuner alone (R103). -/
def Pass.placeClaim (p : Pass) (r : PassResult) (b : Booking) (x : TunerId) (start stop : Nat) : PassResult :=
  let g := p.ground r.laid
  let mux := muxOf p.services b.service
  let from_ := max start p.t0
  match g.firstConflict x true mux from_ (some stop) with
  | none =>
    { r with
      laid := if from_ < stop then r.laid ++ [⟨x, mux, from_, some stop, .overrun, b.handle⟩] else r.laid
      claims := r.claims ++ [⟨b.handle, start, stop, stop, true⟩] }
  | some c =>
    { r with
      laid := if from_ < c then r.laid ++ [⟨x, mux, from_, some c, .overrun, b.handle⟩] else r.laid
      claims := r.claims ++ [⟨b.handle, start, stop, c, false⟩] }

/-- The live claim placed (R101). -/
def Pass.placeLiveClaim (p : Pass) (r : PassResult) (mux : Nat) (named : TunerId) : PassResult :=
  let g := p.ground r.laid
  let other := otherTuner named
  let lay := fun (x : TunerId) (stop : Option Nat) =>
    { r with
      laid := if beforeEnd p.t0 stop then r.laid ++ [⟨x, mux, p.t0, stop, .live, 0⟩] else r.laid
      live := some (⟨x, mux, p.t0, stop, stop⟩ : LivePlacement) }
  match g.firstConflict named false mux p.t0 none, g.firstConflict other false mux p.t0 none with
  | none, _ => lay named none
  | some _, none => lay other none
  | some c, some d => if c < d then lay other (some d) else lay named (some c)

/-- One ranked item placed. -/
def Pass.placeItem (p : Pass) (r : PassResult) : RankedItem → PassResult
  | .booking b => p.placeBooking r b
  | .claim b x start stop => p.placeClaim r b x start stop
  | .live mux named => p.placeLiveClaim r mux named

/-- The bookings in Pending or Armed whose padded end is at or before T₀: Unplaced with an empty cause set (R92). -/
def Pass.unranked (p : Pass) : List BookingResult :=
  (p.bookings.filter fun b => b.planned && decide (b.paddedStop ≤ p.t0)).map fun b =>
    ⟨b.handle, .unplaced .none, false, none, none, false⟩

/-- The whole pass: pinned bookings first, then the ranked items in rank order (R91, R92). -/
def Pass.run (p : Pass) : PassResult :=
  p.items.foldl p.placeItem ⟨p.pinned, p.unranked, [], none⟩

/-- What a pass reads at its start (R88). -/
def State.snapshot (s : State) : Pass :=
  { t0 := s.now
    bookings := s.book.records.filter (·.unfinished)
    muxes := s.catalogue.muxes
    services := s.catalogue.services
    live := s.monitor.live.map fun c => (c.mux, c.named)
    latchA := s.monitor.a.faultLatch
    latchB := s.monitor.b.faultLatch
    feedMode := s.settings.feedMode
    liveRank := s.settings.liveRank
    changed := []
    liveChanged := false }

/-- A pass starts (R86). -/
def State.startPass (s : State) : State :=
  s.setPlanner { s.planner with running := some s.snapshot, repass := false, triggered := false }

/-- The triggers of the command in hand: from Idle they start a pass, while Running they set the re-pass flag (R86; log 4). -/
def State.takeTriggers (s : State) : State :=
  if s.planner.triggered then
    match s.planner.running with
    | none => s.startPass
    | some _ => s.setPlanner { s.planner with repass := true, triggered := false }
  else s

end Sys2Proof.Machine
end

