-- ==== Sys2Proof/Machine/Storage.lean ====
section
/-! DEFINITION. The Storage Estimator's evaluation (R176 to R180). -/

namespace Sys2Proof.Machine

/-- The end of the horizon, bounded at 4294967295 (R176). -/
def State.horizon (s : State) : Nat := min (s.now + s.settings.spaceHorizon * 86400) maxU32

/-- A booking is counted: unfinished, placed, its effective start before the end of the horizon (R176). -/
def State.countsForStorage (s : State) (b : Booking) : Bool :=
  b.unfinished && (match b.placement.start? with
    | some a => decide (a < s.horizon)
    | none => false)

/-- The rate the Catalogue gives a service; that of a free service index is a free value (R177; log 64). -/
def State.catalogueRate (s : State) (service : Nat) : Nat :=
  match findService s.catalogue.services service with
  | some v => v.rate
  | none => (Config.freeRate service).val

/-- The rate of a service, DefaultRate where the Catalogue gives 0 (R177). -/
def State.rateOf (s : State) (service : Nat) : Nat :=
  let rate := s.catalogueRate service
  if rate = 0 then s.settings.defaultRate else rate

/-- The seconds still to record (R177). -/
def Booking.remaining (b : Booking) (now : Nat) : Nat :=
  if b.state = .stopping then 0
  else
    match b.placement with
    | .placed _ a e => e - max now a
    | _ => 0

/-- The need of one booking in MB, rounded up (R177). -/
def State.needOf (s : State) (b : Booking) : Nat := (s.rateOf b.service * b.remaining s.now + 7999) / 8000

/-- The projected need and the number of bookings counted (R178). -/
def State.projection (s : State) : Nat × Nat :=
  let counted := s.book.records.filter s.countsForStorage
  (min ((counted.map s.needOf).sum) maxU32, counted.length)

/-- The condition: judged when free is known (R178). -/
def spaceShort (free : Option Nat) (need floor : Nat) : Bool :=
  match free with
  | some f => decide (f < need + floor)
  | none => false

/-- The SpaceLow flag after an evaluation, with the notice of its setting (R180). -/
def State.judgeSpace (s : State) : State :=
  let e := s.storage
  let short := spaceShort e.free e.need s.settings.spaceFloor
  let s' := s.setStorage { e with low := short }
  if short && !e.low then s'.offer (.spaceLow (e.free.getD 0) e.need s.settings.spaceFloor e.counted) else s'

/-- An evaluation, made while SpaceAlarm is on (R179). -/
def State.evaluateStorage (s : State) : State :=
  if s.settings.spaceAlarm then
    let p := s.projection
    (s.setStorage { s.storage with need := p.1, counted := p.2 }).judgeSpace
  else s

end Sys2Proof.Machine
end

