-- ==== Sys2Proof/Machine/Link.lean ====
section
/-! DEFINITION. The Link Interface (11_the_message_link.md): the check (R203), the FIFO and the frame assembler (R198 to
R200), the request queue and its service (R202, R204), and the end of every command. -/

namespace Sys2Proof.Machine

/-! ## The check (R203) -/

/-- One data bit into the register (R203). -/
def crcBit (crc : BitVec 16) (bit : Bool) : BitVec 16 :=
  let shifted := crc <<< 1
  if crc.msb != bit then shifted ^^^ 0x1021#16 else shifted

/-- One byte, most significant bit first (R203). -/
def crcByte (crc : BitVec 16) (b : Byte) : BitVec 16 :=
  [7, 6, 5, 4, 3, 2, 1, 0].foldl (fun c i => crcBit c (b.getLsbD i)) crc

/-- The check over a list of bytes; the register starts at 0xFFFF (R203). -/
def crc16 (bytes : List Byte) : BitVec 16 := bytes.foldl crcByte 0xFFFF#16

/-- The check as two bytes, high byte first (R203). -/
def checkBytes (bytes : List Byte) : List Byte :=
  let c := crc16 bytes
  [c.extractLsb' 8 8, c.extractLsb' 0 8]

/-- The bytes of a frame on the line (11_the_message_link.md, Frame). -/
def Frame.bytes (f : Frame) : List Byte :=
  let inner := BitVec.ofNat 8 f.body.length :: f.tag :: f.kind :: f.body
  Config.startByte :: (inner ++ checkBytes inner)

/-! ## Counters (R196, R208) -/

/-- One more, saturating at 65535 (R200). -/
def bump (n : Nat) : Nat := min (n + 1) 65535

/-- One of the link counters. -/
inductive LinkCounter where
  | badCheck | byteError | timeout | overrun | queueFull
  deriving DecidableEq, Repr

/-- A link counter increased by one (R200, R202). -/
def Counters.count (c : Counters) : LinkCounter → Counters
  | .badCheck => { c with badCheck := bump c.badCheck }
  | .byteError => { c with byteError := bump c.byteError }
  | .timeout => { c with timeout := bump c.timeout }
  | .overrun => { c with overrun := bump c.overrun }
  | .queueFull => { c with queueFull := bump c.queueFull }

/-- A link counter of the state increased by one. -/
def State.count (s : State) (k : LinkCounter) : State :=
  s.setLink { s.link with counters := s.link.counters.count k }

/-! ## The frame assembler (R199, R200) -/

/-- The item is the last check byte of the frame in Receiving (R199). -/
def completes (a : Assembler) (i : FifoItem) : Bool :=
  match a, i with
  | .receiving (len :: rest), .byte _ false => rest.length + 2 == len.toNat + 5
  | _, _ => false

/-- One item taken that does not complete a frame: the assembler after it, and the counter of a discard (R199, R200). -/
def assemble (a : Assembler) (i : FifoItem) : Assembler × Option LinkCounter :=
  match a, i with
  | .hunting, .byte d false => if d = Config.startByte then (.receiving [], none) else (.hunting, none)
  | .hunting, _ => (.hunting, none)
  | .receiving _, .gap => (.hunting, some .timeout)
  | .receiving _, .overrun => (.hunting, some .overrun)
  | .receiving _, .byte _ true => (.hunting, some .byteError)
  | .receiving [], .byte d false =>
    if Config.maxBody < d.toNat then (.hunting, some .badCheck) else (.receiving [d], none)
  | .receiving (len :: rest), .byte d false => (.receiving (len :: rest ++ [d]), none)

/-- The service state is Applying: the assembler takes nothing (R198). -/
def ServicePhase.isApplying : ServicePhase → Bool
  | .applying => true
  | _ => false

/-- The front item taken from the FIFO, with RTS set again (R198, R201). -/
def State.popFifo (s : State) (rest : List FifoItem) (a : Assembler) : State :=
  (s.setLink { s.link with fifo := rest, assembler := a }).driveRts

/-- The assembler takes items from the front of the FIFO as far as it goes without completing a frame: the entry that completes
one is FRAME_ASSEMBLED's (R198; log 32). -/
def State.drainN (s : State) : Nat → State
  | 0 => s
  | n + 1 =>
    if s.link.phase.isApplying then s
    else
      match s.link.fifo with
      | [] => s
      | i :: rest =>
        if completes s.link.assembler i then s
        else
          let r := assemble s.link.assembler i
          let s := s.popFifo rest r.1
          match r.2 with
          | some k => (s.count k).drainN n
          | none => s.drainN n

/-- The FIFO drained (R198). -/
def State.drain (s : State) : State := s.drainN s.link.fifo.length

/-- The end of every command: its pass triggers are taken (R86), the assembler takes what it can (R198), REC, ATTN and WAKE
follow (R64, R193, R160). -/
def State.settle (s : State) : State := s.takeTriggers.drain.driveLines

/-- A good frame offered to the request queue (R202). -/
def State.offerFrame (s : State) (f : Frame) : State :=
  if s.link.requests.length < Config.maxRequests then
    let phase := match s.link.phase with
      | .idle => .applying
      | p => p
    (s.setLink { s.link with requests := s.link.requests ++ [f], phase := phase }).driveRts
  else s.count .queueFull

/-- The frame of collected bytes: length, tag, kind, body and two check bytes (R199). -/
def frameOfBytes (bytes : List Byte) : Option (Frame × Bool) :=
  match bytes with
  | len :: tag :: kind :: rest =>
    let body := rest.take len.toNat
    let check := rest.drop len.toNat
    some (⟨tag, kind, body⟩, check == checkBytes (len :: tag :: kind :: body))
  | _ => none

/-- A completed frame: good, it is offered to the request queue; otherwise it is discarded as bad check (R199, R200). -/
def State.completeFrame (s : State) (bytes : List Byte) : State :=
  match frameOfBytes bytes with
  | some (f, true) => s.offerFrame f
  | _ => s.count .badCheck

/-! ## Replies (R204) -/

/-- The kind of a reply (R204). -/
def replyKind (kind : Byte) : Byte := if kind.getLsbD 7 then kind else kind + 0x80

/-- The result and values of a planned reply, those that waited read now (R54, R56, R57, R155, R164; log 13, log 34). -/
def ReplyPlan.read (plan : ReplyPlan) (s : State) : Result × ReplyData :=
  match plan with
  | .done r d => (r, d)
  | .prompt r d => (r, d)
  | .booked r h stored =>
    match s.booking? h with
    | some b => (r, .placement h b.state b.placement stored)
    | none => (r, .placement h .finished .none stored)
  | .live =>
    match s.monitor.live with
    | some c => (.ok, .livePlacement c.placement)
    | none => (.ok, .livePlacement none)
  | .standby before forced => (.ok, .standby before s.wake.host forced s.wake.due s.wake.wakeAt)

/-- The reply to a frame (R204). -/
def ReplyPlan.build (plan : ReplyPlan) (f : Frame) (s : State) : Reply :=
  let r := plan.read s
  ⟨f.tag, replyKind f.kind, r.1, r.2⟩

/-- A refusal: the result code alone (R204). -/
def ReplyPlan.refuse (r : Result) : ReplyPlan := .done r .code

/-- A reply that waits for no pass (R122, R164; log 14). -/
def ReplyPlan.isPrompt : ReplyPlan → Bool
  | .prompt _ _ => true
  | _ => false

/-- A reply begins to be sent: its first byte begins at once while CTS is asserted, and waits for CTS otherwise (R202, R205). -/
def State.send (s : State) (r : Reply) : State :=
  s.setLink { s.link with phase := .sending r, txBegun := s.lines.cts, txSent := 0 }

/-- The service state after the owner returned its reply: Holding while a pass trigger was given, for one pass end or, with a
pass already Running, for two; otherwise, and for a prompt reply, Sending (R87, R122, R202). -/
def State.afterApply (s : State) (f : Frame) (plan : ReplyPlan) : State :=
  if s.planner.triggered && !plan.isPrompt then
    s.setLink { s.link with phase := .holding (if s.planner.running.isSome then 2 else 1) plan }
  else s.send (plan.build f s)

/-- The frame taken into service: given in Idle it stands for its whole frame offered and taken at once; in Applying it is the
frame at the front of the request queue (R202; log 2). -/
def State.takeRequest (s : State) (f : Frame) : Option State :=
  match s.link.phase with
  | .idle => some ((s.setLink { s.link with requests := [f], phase := .applying }).driveRts)
  | .applying => if s.link.requests.head? = some f then some s else none
  | _ => none

/-! ## The two shapes of a command -/

/-- What a request's owner does: the state after it, and the reply it returns. -/
abbrev Owner := State → State × ReplyPlan

/-- A request served from Applying on: the owner, the service state after it, the end of the command (R202). -/
def State.serve (s : State) (f : Frame) (owner : Owner) : State :=
  let r := owner s
  (r.1.afterApply f r.2).settle

/-- A request row: a command that is not of its own row, or that cannot be taken into service now, changes nothing
(log 2, log 10, log 29). -/
def request (row : Instr) (f : Frame) (owner : Owner) (s : State) : Host.Outcome State Fault Refusal :=
  if s.lines.resetn && row.wellFormed then
    match s.takeRequest f with
    | some s' => .next (s'.serve f owner)
    | none => .next s
  else .next s

/-- An event row: while its condition does not hold, or RESETN is low, it changes nothing (log 1, log 10). -/
def event (due : Bool) (act : State → State) (s : State) : Host.Outcome State Fault Refusal :=
  if s.lines.resetn && due then .next (act s).settle else .next s

/-- An owner that judges parsed operands: a refused body is answered with its result code and changes nothing (R204). -/
def parsed {α : Type} (p : Parsed α) (owner : α → Owner) : Owner := fun s =>
  match p with
  | .error r => (s, .refuse r)
  | .ok x => owner x s

end Sys2Proof.Machine
end

