-- ==== Sys2Proof/Machine/PassEnd.lean ====
section
/-! DEFINITION. The end of a pass (R89): writing the results that stand (R88, R98, R99), the clash list (R104), the notices
(R105), the overrun results (R133), the step hold and the openings (R116, R138), the live placement (R157), the
replies (R87) and the further pass (R86). -/

namespace Sys2Proof.Machine

/-! ## Step 1: placements -/

/-- The result of a pass stands for a booking in Pending or Armed: unchanged since T₀ and still planned (R88). -/
def Pass.stands (p : Pass) (b : Booking) : Bool := b.planned && !p.changed.contains b.handle

/-- The result of an overrun claim stands: the owner is Recording with that claim Open (R88). -/
def ClaimResult.stands (r : ClaimResult) (b : Booking) : Bool :=
  b.state == .recording && (match b.items.overrun with
    | .opened _ stop => stop == r.stop
    | _ => false)

/-- The alternative choice (R98): main event, service, nominal window and tags of the alternative; the entry leaves the list and
the old main event enters it; Moved; the report record goes (R128). Tag and key are absent when the alternative's event has left the event
table (log 47). -/
def Booking.choose (b : Booking) (guide : List Event) (a : Alternative) : Booking :=
  let event := findEvent guide a.ref
  { b with
    main := some a.ref
    service := a.service
    nominalStart := a.start
    nominalStop := a.stop
    tag := event.bind (·.tag)
    key := event.bind (·.key)
    alternatives := b.withOldMain (b.alternatives.filter fun x => !(x.ref == a.ref))
    flags := { b.flags with moved := true }
    items := b.items.dropReport }

/-- A pass returns an Armed booking to Pending: ranked and left Unplaced, or placed on an alternative (R99). -/
def BookingResult.returns (r : BookingResult) (b : Booking) : Bool :=
  b.state == .armed && r.ranked && (r.placement.isUnplaced || r.choice.isSome)

/-- The record with a result written (R89 step 1, R99). -/
def Booking.write (b : Booking) (guide : List Event) (r : BookingResult) : Booking :=
  let b1 := match r.choice with
    | some a => b.choose guide a
    | none => b
  let b2 := { b1 with
    placement := r.placement
    late := r.late
    replan := false
    flags := { b1.flags with paddingTrimmed := r.trimmed.getD b1.flags.paddingTrimmed } }
  if r.returns b then { b2 with state := .pending, items := b2.items.dropCandidate } else b2

/-- One result written; an Armed booking returned gets its BookingState notice; a booking written Unplaced leaves the abandon list
(R89, R99, R168). -/
def State.writeResult (s : State) (r : BookingResult) : State :=
  match s.booking? r.handle with
  | none => s
  | some b =>
    let guide := s.guide
    let s := s.modBooking r.handle fun b => b.write guide r
    let s := if r.placement.isUnplaced then s.leaveAbandon r.handle else s
    if r.returns b then s.noteState r.handle else s

/-- A claim's result written: the owner's effective end (R103). The tuner is the one the record names (R111). -/
def State.writeClaim (s : State) (r : ClaimResult) : State :=
  s.modBooking r.handle fun b =>
    { b with placement := match b.placement with
      | .placed x a _ => .placed x a r.newEnd
      | other => other }

/-- The results that stand, in ascending handle. -/
def State.standing (s : State) (p : Pass) (results : List BookingResult) : List BookingResult :=
  s.book.records.filterMap fun b =>
    if p.stands b then results.find? fun r => r.handle == b.handle else none

/-- The claim results that stand, in ascending handle. -/
def State.standingClaims (s : State) (results : List ClaimResult) : List ClaimResult :=
  s.book.records.filterMap fun b => results.find? fun r => r.handle == b.handle && r.stands b

/-! ## Step 2: the clash list -/

/-- Two windows overlap when each starts before the other ends (00_scope.md, Windows). -/
def overlaps (a e c f : Nat) : Bool := decide (a < f) && decide (c < e)

/-- The rank of a booking in a pass: from the values read at T₀, which an alternative chosen by the pass does not change (R92, R98,
R104). -/
def Pass.rankOf (p : Pass) (b : Booking) : Rank :=
  match p.bookings.find? fun x => x.handle == b.handle with
  | some x => x.rank
  | none => b.rank

/-- The placed bookings whose effective window overlaps a nominal window, the first 6 in rank order (R104). -/
def blockersOf (records : List Booking) (p : Pass) (b : Booking) : List Nat :=
  let placed := records.filter fun x => match x.placement with
    | .placed _ a e => overlaps a e b.nominalStart b.nominalStop
    | _ => false
  ((sortBy (fun x y => (p.rankOf x).before (p.rankOf y)) placed).take 6).map (·.handle)

/-- The clash list from the records after the pass; a booking in no pass yet has no record (R104). -/
def clashList (records : List Booking) (p : Pass) : List Clash :=
  let met := records.filter fun b =>
    b.unfinished && b.placement.isUnplaced && (b.written.isSome || p.bookings.any fun x => x.handle == b.handle)
  (sortBy earlierBooking met).map fun b =>
    ⟨b.handle, b.nominalStart, b.nominalStop, b.placement.causes, blockersOf records p b⟩

/-- The plan as written: an occupancy for each placed booking and for the placed live claim, an empty span among them (R101), per tuner in
ascending start, the live claim before bookings of equal start, then by handle (R84, R108; log 22). A booking's multiplex is that of the
service its record now names (log 62). -/
def planOf (records : List Booking) (services : List Service) (live : Option LivePlacement) : List Occupancy :=
  let bookings := records.filterMap fun b => match b.placement with
    | .placed x a e =>
      if b.unfinished then some (⟨x, muxOf services b.service, a, some e, .booking, b.handle⟩ : Occupancy) else none
    | _ => none
  let claim := match live with
    | some l => [(⟨l.tuner, l.mux, l.start, l.stop, .live, 0⟩ : Occupancy)]
    | none => []
  sortBy (fun x y => decide (x.start < y.start) || (x.start == y.start && decide (x.handle ≤ y.handle))) (claim ++ bookings)

/-- The services a plan takes its multiplexes from: each as the pass read it at T₀ (R23), and one made since, which only a booking changed
since, or an alternative on a service dropped (log 64), can name, as it stands (log 62). -/
def State.planServices (s : State) (p : Pass) : List Service := p.services ++ s.catalogue.services

/-- The live placement the plan is written with: the pass's own, or the one held when the pass's result is discarded (R88,
R111). -/
def State.livePlanned (s : State) (p : Pass) (live : Option LivePlacement) : Option LivePlacement :=
  if p.liveChanged then s.monitor.live.bind (·.placement) else live

/-! ## Step 3: notices -/

/-- The notice of a placement written against the one written before (R105). -/
def comparison (h : Nat) (before : Option Placement) (after : Placement) : Option NoticeBody :=
  match before, after with
  | some (.placed _ _ _), .unplaced c => some (.clashFound h c)
  | none, .unplaced c => some (.clashFound h c)
  | some (.unplaced _), .placed x a e => some (.clashCleared h x a e)
  | _, _ => none

/-- Placed before and after, on another tuner or with another effective window (R105). -/
def placementMoved (before : Option Placement) (after : Placement) : Bool :=
  match before, after with
  | some (.placed x a e), .placed y c f => x != y || a != c || e != f
  | _, _ => false

/-- The notices for one booking whose result stands, the clash notice before the BookingState (log 42), and the placement kept for the
next comparison (R105). -/
def State.compareWritten (s : State) (h : Nat) (chosen : Bool) : State :=
  match s.booking? h with
  | none => s
  | some b =>
    let s := match comparison h b.written b.placement with
      | some n => s.offer n
      | none => s
    let s := if chosen || placementMoved b.written b.placement then s.noteState h else s
    s.modBooking h fun b => { b with written := some b.placement }

/-- The bookings whose result stands, in ascending handle: pinned ones keep the placement their record holds (R91, R111). So a Moved taken
while the pass was Running is told at its end, not at the re-pass's (log 57). -/
def State.judged (s : State) (p : Pass) (written : List BookingResult) : List (Nat × Bool) :=
  s.book.records.filterMap fun b =>
    match written.find? fun r => r.handle == b.handle with
    | some r => some (b.handle, r.choice.isSome)
    | none =>
      if b.pinned && p.bookings.any fun x => x.handle == b.handle && x.pinned then some (b.handle, false) else none

/-! ## Step 4: handing on -/

/-- The Order Unit applies a claim's result (R133). -/
def State.applyClaim (s : State) (r : ClaimResult) : State :=
  if r.full then s.modItems r.handle fun i => { i with overrun := .full }
  else
    let s := s.modItems r.handle fun i => { i with overrun := .truncated }
    if r.newEnd ≤ s.now then s.stop r.handle .overrun true else s

/-- The step hold counts a pass end; at the first pass that includes the step it clears (R138). -/
def State.countStepHold (s : State) : State :=
  match s.orders.stepHold with
  | some (k + 2) => s.setOrders { s.orders with stepHold := some (k + 1) }
  | _ => s.setOrders { s.orders with stepHold := none }

/-- The opening tests at a pass end: every placed Pending booking when the step hold clears, otherwise those written (R116,
R138), in ascending handle (log 39). -/
def State.openAtPassEnd (s : State) (written : List BookingResult) : State :=
  let cleared := s.orders.stepHold == some 1
  let s := s.countStepHold
  let tested := if cleared then s.handles else s.handles.filter fun h => written.any fun r => r.handle == h
  tested.foldl (fun s h => s.testOpening h) s

/-- A live placement arrives on its tuner: the one before did not name that tuner, or named another multiplex (R147, R157). -/
def LivePlacement.arrivesAfter (l : LivePlacement) (before : Option LivePlacement) : Bool :=
  match before with
  | some q => q.tuner != l.tuner || q.mux != l.mux
  | none => true

/-- The live placement handed to the Tuner Monitor: LiveYield when the yield time changes, the placement stored, an arrival on
the placed tuner, the in-use rule (R157). The arrival's Retune comes before a Release of the tuner left (log 58). -/
def State.handLive (s : State) (l : LivePlacement) : State :=
  match s.monitor.live with
  | none => s
  | some c =>
    let before := c.placement
    let s := if (before.bind (·.yieldAt)) ≠ l.yieldAt then s.offer (.liveYield l.tuner l.mux l.yieldAt) else s
    let s := s.setMonitor { s.monitor with live := some { c with placement := some l } }
    (if l.arrivesAfter before then s.arrive l.tuner l.mux else s).evaluateTuners

/-- The live claim's result, when it stands, is handed over (R88, R157). -/
def State.handLiveResult (s : State) (p : Pass) (live : Option LivePlacement) : State :=
  match live with
  | some l => if p.liveChanged then s else s.handLive l
  | none => s

/-! ## Steps 5 and 6 -/

/-- A held reply counts a pass end, and is released at the first pass that includes its request's changes (R87, R89 step 5). -/
def State.releaseReply (s : State) : State :=
  match s.link.phase, s.link.requests with
  | .holding (k + 2) plan, _ => s.setLink { s.link with phase := .holding (k + 1) plan }
  | .holding _ plan, f :: _ => s.send (plan.build f s)
  | _, _ => s

/-- The pass ends; with the re-pass flag set, or with a trigger given at this end, a further pass starts (R86, R89 step 6;
log 5). -/
def State.closePass (s : State) (p : Pass) : State :=
  let again := s.planner.repass || s.planner.triggered
  let s := s.setPlanner { s.planner with running := none, repass := false, triggered := false, lastT0 := some p.t0 }
  if again then s.startPass else s

/-! ## The whole -/

/-- Steps 1 to 3 of R89: placements, clash list, notices, and the plan that the other blocks read. -/
def State.writePass (s : State) (p : Pass) (r : PassResult) : State :=
  let written := s.standing p r.bookings
  let claims := s.standingClaims r.claims
  let s := claims.foldl State.writeClaim (written.foldl State.writeResult s)
  let s := s.setPlanner { s.planner with
    plan := planOf s.book.records (s.planServices p) (s.livePlanned p r.live)
    clashes := clashList s.book.records p }
  (s.judged p written).foldl (fun s x => s.compareWritten x.1 x.2) s

/-- The end of a Running pass (R89); the order within step 4 is that of log 60, and several claims are applied in ascending handle
(log 39). -/
def State.endPass (s : State) (p : Pass) : State :=
  let r := p.run
  let written := s.standing p r.bookings
  let claims := s.standingClaims r.claims
  let s := s.writePass p r
  let s := claims.foldl State.applyClaim s
  let s := s.openAtPassEnd written
  let s := s.handLiveResult p r.live
  let s := s.evaluateWake.evaluateStorage
  s.releaseReply.closePass p

end Sys2Proof.Machine
end

