-- ==== Sys2Proof/Machine/Time.lean ====
section
/-! DEFINITION. The Time Base's operations (01_time_base_and_local_time.md): ticks and seconds (R2 to R4), the elapsed-second mark
as every block counts it, the step with what each block does at it (R6, R7, R53, R138, R171), slew and drift (R8, R9),
the zone (R13 to R15). -/

namespace Sys2Proof.Machine

/-! ## Seconds (R2 to R4) -/

/-- The slew term of a second (R4). -/
def slewTerm (c : Int) : Int := if 64 ≤ c then 64 else if c ≤ -64 then -64 else c

/-- The slew applied saturates (R1). -/
def clampInt (low high x : Int) : Int := max low (min high x)

/-- The greatest magnitude of the slew applied (R1). -/
abbrev maxApplied : Int := 2147483647

/-- The trim term of a second: T in the first second of a trim window (R3). -/
def trimTerm (seconds : Nat) (trim : Int) : Int := if seconds % 32 = 0 then trim else 0

/-- A new second begins: its adjustment is fixed, and C and A are updated (R2, R4). -/
def TimeBase.beginSecond (t : TimeBase) : TimeBase :=
  let s := slewTerm t.slew
  let a := trimTerm t.seconds t.trim + s
  { t with
    sub := a.toNat
    hold := (-a).toNat
    slew := t.slew - s
    capture := t.capture.map fun k => { k with applied := clampInt (-maxApplied) maxApplied (k.applied + s) } }

/-- S after a second: it holds at 4294967295 (R2). -/
def nextSecond (s : Nat) : Nat := min (s + 1) maxU32

/-- The second ends and the next begins (R2). -/
def TimeBase.endSecond (t : TimeBase) : TimeBase := { t with seconds := nextSecond t.seconds }.beginSecond

/-- Ticks left in the current second, the one that ends it included (R2). -/
def TimeBase.ticksLeft (t : TimeBase) : Nat := t.hold + (32767 - t.sub) + 1

/-- One tick inside a second (R2). -/
def TimeBase.tick (t : TimeBase) : TimeBase :=
  if 0 < t.hold then { t with hold := t.hold - 1 } else { t with sub := t.sub + 1 }

/-! ## The elapsed-second mark (R2, R114, R141, R160) -/

/-- A count one second on, stopping at the bound given until the command of its completion comes (log 30). -/
def countUp (bound n : Nat) : Nat := if n < bound then n + 1 else n

/-- A mark: one second more, and complete when that is the length as the setting now stands, or when it was so at an earlier mark (R129, R141,
R160; log 30). -/
def Count.mark (c : Count) (length : Nat) : Count :=
  let n := countUp length c.seconds
  ⟨n, c.complete || decide (length ≤ n)⟩

/-- The longest OrderTimeout (the settings table): an order's count stops there, whatever its own timeout (log 30). -/
abbrev maxTimeout : Nat := 120

/-- The mark as the Order Unit's items of one booking count it: the candidate's hold (R129), the gap (R134) and, while Recording,
the seconds to the next failover test (R135); in a gap begun by Restart these stand until the booking is Recording (log 63). -/
def Booking.mark (b : Booking) (runHold : Nat) : Booking :=
  let candidate := b.items.candidate.map fun c => { c with held := c.held.mark runHold }
  let items := { b.items with candidate := candidate }
  if b.items.inGap then
    { b with
      gapSeconds := min (b.gapSeconds + 1) 65535
      items := if b.state = .recording then { items with failover := items.failover - 1 } else items }
  else { b with items := items }

/-- The mark as a tuner's counts take it, the loss count by LossHold as it stands at the mark (R141). -/
def Tuner.mark (t : Tuner) (lossLength : Nat) : Tuner :=
  { t with
    grace := t.grace.map (countUp Config.graceSeconds)
    loss := t.loss.map (·.mark lossLength)
    regain := t.regain.map (countUp 1) }

/-- The mark as the Wake Unit's counts take it (R160). -/
def WakeUnit.mark (w : WakeUnit) (timeout : Nat) : WakeUnit :=
  { w with attempt := w.attempt.map (·.mark timeout), pause := w.pause.map (countUp Config.pauseSeconds) }

/-- One elapsed second marked in every block. -/
def State.markSecond (s : State) : State :=
  let v := s.settings
  let s := s.setBook { s.book with records := s.book.records.map fun b => if b.unfinished then b.mark v.runHold else b }
  let s := s.setOrderList (s.orders.orders.map fun o => { o with elapsed := countUp maxTimeout o.elapsed })
  let s := s.setMonitor { s.monitor with a := s.monitor.a.mark v.lossLength, b := s.monitor.b.mark v.lossLength }
  s.setWake (s.wake.mark v.wakeTimeout)

/-- The current second ends (R2). -/
def State.endSecond (s : State) : State := (s.setTime s.time.endSecond).markSecond

/-- The gap timer counts ticks while RTS is asserted, to 328 (R198). -/
def State.countGap (s : State) (ticks : Nat) : State :=
  if s.lines.rts then
    s.setLink { s.link with gapTimer := s.link.gapTimer.map fun n => min (n + ticks) Config.gapTicks }
  else s

/-- One period of the crystal (R2, R198). -/
def State.crystal (s : State) : State :=
  let s := s.countGap 1
  if s.time.sub = 32767 ∧ s.time.hold = 0 then s.endSecond else s.setTime s.time.tick

/-! ## Zone (R13 to R15) -/

/-- To the nearest multiple of 15 minutes, halves upward, then into −720 to +840 (R13). -/
def roundZone (offset : Int) : Int := clampInt (-720) 840 ((offset + 7) / 15 * 15)

/-- The zone offset takes a value: a ZoneChanged notice when it differs (R15). -/
def State.setZone (s : State) (offset : Int) (cause : ZoneCause) : State :=
  let old := s.time.zone
  let s := s.setTime { s.time with zone := offset }
  if old = offset then s else s.offer (.zoneChanged old offset cause)

/-- The held next change is due (R14). -/
def State.nextChangeDue (s : State) : Bool :=
  s.time.clockSet && (match s.time.nextChange with
    | some n => decide (n.at_ ≤ s.now)
    | none => false)

/-- The held next change is taken (R14). -/
def State.takeNextChange (s : State) : State :=
  match s.time.nextChange with
  | none => s
  | some n => (s.setTime { s.time with nextChange := none }).setZone n.offset .scheduled

/-- A local day start is due (R17). -/
def State.dayStartDue (s : State) : Bool :=
  s.time.clockSet && (match s.time.lastDate with
    | some d => decide (d < s.today)
    | none => true)

/-! ## Steps (R6, R7) -/

/-- The zone offset in force at the new S of a step, a held change that it takes included (R6). -/
def TimeBase.zoneAt (t : TimeBase) (b : Nat) : Int :=
  match t.nextChange with
  | some n => if n.at_ ≤ b then n.offset else t.zone
  | none => t.zone

/-- The Time Base stepped to B (R6). -/
def TimeBase.step (t : TimeBase) (b : Nat) : TimeBase :=
  { t with
    seconds := b
    sub := 0
    hold := 0
    slew := 0
    capture := some ⟨b, 0, 0⟩
    clockSet := true
    lastDate := some (localDay b (t.zoneAt b)) }.beginSecond

/-- The Booking Table applies a step: Pending bookings whose padded end it passed finish Missed (ClockStep) (R53), in ascending handle
(log 39). -/
def State.bookingStep (s : State) : State :=
  s.eachBooking fun s h =>
    match s.booking? h with
    | some b => if b.state = .pending ∧ b.paddedStop ≤ s.now then s.finish h ⟨.missed, .clockStep⟩ false else s
    | none => s

/-- Recording bookings whose effective end a step passed stop with cause Schedule (R138 item 2), in ascending handle (log 39). -/
def State.stepEnds (s : State) : State :=
  s.eachBooking fun s h =>
    match s.booking? h with
    | some b =>
      match b.placement.stop? with
      | some e => if b.state = .recording ∧ e ≤ s.now then s.stop h .schedule false else s
      | none => s
    | none => s

/-- Recording bookings past their AccurateSlack end stop with cause Slack (R138 item 3), in ascending
handle (log 39). -/
def State.stepSlack (s : State) : State :=
  s.eachBooking fun s h =>
    match s.booking? h with
    | some b =>
      if b.state = .recording ∧ b.followsStatus = true ∧ s.slackEnd b ≤ s.now then s.stop h .slack false else s
    | none => s

/-- Armed bookings past their AccurateSlack end finish Missed (NeverRan) (R138 item 4), in ascending handle
(log 39). -/
def State.stepArmed (s : State) : State :=
  s.eachBooking fun s h =>
    match s.booking? h with
    | some b =>
      if b.state = .armed ∧ s.slackEnd b ≤ s.now then s.finish h ⟨.missed, .neverRan⟩ false else s
    | none => s

/-- Due bookings past their padded end with the Start undelivered finish Missed (HostAbsent) (R138 item 5), in
ascending handle (log 39). -/
def State.stepDue (s : State) : State :=
  s.eachBooking fun s h =>
    match s.booking? h with
    | some b =>
      if b.state = .due ∧ s.holdsUndelivered h .start = true ∧ b.paddedStop ≤ s.now then
        s.finish h ⟨.missed, .hostAbsent⟩ false
      else s
    | none => s

/-- The step hold: until the first pass end that includes the step, the second one when a pass is Running (R138). -/
def State.setStepHold (s : State) : State :=
  s.setOrders { s.orders with stepHold := some (if s.planner.running.isSome then 2 else 1) }

/-- The Order Unit applies a step, the first among them; a backward step makes none of its changes (R138; log 15). -/
def State.orderStep (s : State) (old : Nat) : State :=
  if old ≤ s.now then s.setStepHold.stepEnds.stepSlack.stepArmed.stepDue else s

/-- An instant marked as reached lies ahead again after a backward step, and can be reached again (log 20). -/
def State.forgetReached (s : State) : State :=
  let now := s.now
  let keep := fun (t : Option Nat) => t.filter fun e => decide (e ≤ now)
  let s := s.setBook { s.book with
    records := s.book.records.map fun b => { b with items := { b.items with endTaken := keep b.items.endTaken } } }
  s.setMonitor { s.monitor with yieldTaken := keep s.monitor.yieldTaken }

/-- A TimeReport steps the clock to B: the Time Base, its notices, and the announcement to the Booking Table, the Order Unit, the
Series Matcher and the Wake Unit, with the pass trigger (R6, R7, R18, R80, R171). Where the step takes a held next change, the step and the
zone change (R15) are one announcement to the Series Matcher, after the other two blocks (log 55). -/
def State.stepClock (s : State) (b : Nat) : State :=
  let old := s.now
  let s := s.setTime (s.time.step b)
  let s := (s.offer (.clockStepped old b)).forgetReached
  let taken := s.nextChangeDue
  let s := if taken then s.takeNextChange else s
  let s := s.trigger.bookingStep.orderStep old
  (s.instantiateAll taken).evaluateWake

/-! ## Slew and drift (R5, R8, R9) -/

/-- The offset of the clock from broadcast time in ticks (R5). -/
def TimeBase.offsetFrom (t : TimeBase) (b : Nat) : Int := ((t.seconds : Int) - (b : Int)) * 32768 + (t.sub : Int)

/-- x / d to the nearest whole number, halves away from zero (R9). -/
def roundAway (x : Int) (d : Nat) : Int :=
  let q := (2 * x.natAbs + d) / (2 * d)
  if x < 0 then -(q : Int) else (q : Int)

/-- The Time Base after a drift estimate, and whether T was clamped (R9). -/
def TimeBase.drift (t : TimeBase) (k : Capture) (offset : Int) (b : Nat) : TimeBase × Bool :=
  let e := (offset - k.applied) - k.offset0
  let d := roundAway (e * 32) (b - k.b0)
  let raw := t.trim - d
  let trim := clampInt (-255) 255 raw
  ({ t with trim := trim, capture := some ⟨b, offset, 0⟩ }, trim != raw)

/-- The capture of a drift estimate: the clock is set and B − B₀ ≥ 3600 (R9). -/
def TimeBase.driftCapture (t : TimeBase) (b : Nat) : Option Capture :=
  match t.capture with
  | some k => if k.b0 + 3600 ≤ b then some k else none
  | none => none

/-- The Time Base after a report that slews, the action, and the trim-limited mark (R8, R9). -/
def TimeBase.slewTo (t : TimeBase) (offset : Int) (b : Nat) : TimeBase × TimeAction × Bool :=
  match t.driftCapture b with
  | some k =>
    let r := t.drift k offset b
    ({ r.1 with slew := -offset }, .slewedWithDrift, r.2)
  | none => ({ t with slew := -offset }, .slewed, false)

/-- The report steps: the clock is unset, or the offset is two seconds or more (R5). -/
def TimeBase.steps (t : TimeBase) (offset : Int) : Bool := !t.clockSet || decide (65536 ≤ offset.natAbs)

end Sys2Proof.Machine
end

