-- ==== Sys2Proof/Machine/Guide.lean ====
section
/-! DEFINITION. The Guide Store's operations (02_services_multiplexes_and_the_guide_store.md): batches (R28 to R32), expiry
(R33), drops (R34), and guide changes applied to bookings (R35 to R39). -/

namespace Sys2Proof.Machine

/-! ## The event table (R26) -/

/-- The order of the event table: service, start, event id (R26). -/
def eventBefore (x y : Event) : Bool :=
  decide (x.service < y.service) || (x.service == y.service &&
    (decide (x.start < y.start) || (x.start == y.start && decide (x.id ≤ y.id))))

/-- An event at its place in the table (R26). -/
def insertEvent (e : Event) (guide : List Event) : List Event := insertBy eventBefore e guide

/-- An event is stale: it ended more than 3600 s before now, the clock being set (R33). -/
def State.stale (s : State) (e : Event) : Bool := s.time.clockSet && decide (e.stop + 3600 < s.now)

/-- An event is exempt from expiry: main event or alternative of an unfinished booking (R33). -/
def State.exempt (s : State) (e : Event) : Bool :=
  s.book.records.any fun b =>
    b.unfinished && (b.main == some e.ref || b.alternatives.any fun a => a.ref == e.ref)

/-- Every stale event that is not exempt removed (R33). -/
def State.expire (s : State) : State := s.setGuide (s.guide.filter fun e => !(s.stale e && !s.exempt e))

/-! ## Guide changes and bookings (R35 to R39) -/

/-- An Armed booking whose padded start now lies ahead goes back to Pending, without its candidate (R36, R37). -/
def Booking.disarm (b : Booking) (now : Nat) : Booking :=
  if b.state = .armed ∧ now < b.paddedStart then { b with state := .pending, items := b.items.dropCandidate } else b

/-- A booking's record changed by a guide change: a pass trigger, with its BookingState notice (R35, R85). -/
def State.guideChange (s : State) (h : Nat) (f : Booking → Booking) : State :=
  ((s.modBooking h f).bookingChanged h).noteState h

/-- The event of a booking was moved: a new start or another duration (R36). -/
def Event.movedFrom (new old : Event) : Bool := old.start != new.start || old.duration != new.duration

/-- The record after its main event was updated: it follows a move, takes changed tags, and is settled from its new times (R36). -/
def Booking.follow (b : Booking) (old new : Event) (now : Nat) : Booking :=
  let b1 := if new.movedFrom old then { b with nominalStart := new.start, nominalStop := new.stop, replan := true } else b
  let b2 := if old.tag != new.tag || old.key != new.key then { b1 with tag := new.tag, key := new.key } else b1
  if new.movedFrom old then b2.disarm now else b2

/-- The main event of a Pending or Armed booking was updated (R36). -/
def State.follow (s : State) (b : Booking) (old new : Event) : State :=
  let now := s.now
  if new.movedFrom old && decide ((b.follow old new now).paddedStop ≤ now) then
    (s.modBooking b.handle fun b => b.follow old new now).finish b.handle ⟨.missed, .guideMoved⟩ false
  else s.guideChange b.handle fun b => b.follow old new now

/-- The alternatives that have not ended (R37). -/
def Booking.openAlternatives (b : Booking) (now : Nat) : List Alternative :=
  b.alternatives.filter fun a => decide (now < a.stop)

/-- A booking of origin Series (R37). -/
def Origin.isSeries : Origin → Bool
  | .series _ => true
  | _ => false

/-- The record after the promotion of an alternative (R37). Tag and key are absent when the alternative's own event has left the event
table: in the same batch or GuideDrop, or earlier, while the booking was Due or Recording and kept the entry (R35; log 47). -/
def Booking.promote (b : Booking) (guide : List Event) (a : Alternative) (rest : List Alternative) (now : Nat) : Booking :=
  let event := findEvent guide a.ref
  { b with
    main := some a.ref
    service := a.service
    nominalStart := a.start
    nominalStop := a.stop
    tag := event.bind (·.tag)
    key := event.bind (·.key)
    alternatives := rest
    flags := { b.flags with moved := true }
    items := b.items.dropReport
    replan := true : Booking }.disarm now

/-- The record of an orphaned booking (R38). -/
def Booking.orphaned (b : Booking) : Booking :=
  { b with main := none, flags := { b.flags with orphan := true }, items := b.items.dropReport, replan := true }

/-- The main event of a Pending or Armed booking was removed: promote, cancel or orphan (R37, R38). -/
def State.mainRemoved (s : State) (b : Booking) : State :=
  if b.origin.isSeries then
    match b.openAlternatives s.now with
    | a :: rest =>
      let guide := s.guide
      let now := s.now
      s.guideChange b.handle fun b => b.promote guide a rest now
    | [] =>
      (s.modBooking b.handle fun b => { b with alternatives := [] }).finish b.handle ⟨.cancelled, .guideDrop⟩ false
  else s.guideChange b.handle Booking.orphaned

/-- An event was removed: one booking, in Pending or Armed and referring to it, is brought up to date (R35, R37 to R39). -/
def State.losesEvent (s : State) (ref : EventRef) (h : Nat) : State :=
  match s.booking? h with
  | none => s
  | some b =>
    if b.planned then
      if b.main = some ref then s.mainRemoved b
      else if b.alternatives.any fun a => a.ref == ref then
        s.guideChange h fun b => { b with alternatives := b.alternatives.filter fun a => !(a.ref == ref) }
      else s
    else s

/-- An event was removed: each booking is brought up to date, in ascending handle (R35; log 39). -/
def State.eventRemoved (s : State) (ref : EventRef) : State := s.eachBooking fun s h => s.losesEvent ref h

/-- An alternative's event was moved: its times, its place in start order, after entries of the same start (log 40), and out of the
list when it has ended (R39). -/
def Booking.retimeAlternative (b : Booking) (new : Event) (now : Nat) : Booking :=
  let rest := b.alternatives.filter fun a => !(a.ref == new.ref)
  { b with alternatives := if new.stop ≤ now then rest else insertAlternative new.alternative rest }

/-- An event was updated: one booking, in Pending or Armed and referring to it, is brought up to date (R35, R36, R39). -/
def State.takesUpdate (s : State) (old new : Event) (h : Nat) : State :=
  let moved := new.movedFrom old
  let retagged := old.tag != new.tag || old.key != new.key
  match s.booking? h with
  | none => s
  | some b =>
    if b.planned then
      if b.main = some new.ref then
        if moved || retagged then s.follow b old new else s
      else if moved && b.alternatives.any fun a => a.ref == new.ref then
        let now := s.now
        s.guideChange h fun b => b.retimeAlternative new now
      else s
    else s

/-- An event was updated: each booking is brought up to date, in ascending handle (R35; log 39). -/
def State.eventUpdated (s : State) (old new : Event) : State := s.eachBooking fun s h => s.takesUpdate old new h

/-! ## Batches (R28 to R32) -/

/-- The copies of an entry: start and event id (R29). -/
def BatchEntry.copies (e : BatchEntry) (base : Nat) : List (Nat × Nat × Nat) :=
  (List.range (e.repeats + 1)).map fun k => (k, base + e.offset + k * e.spacing, e.id + k * e.step)

/-- The events of an entry: none for a duration of 0; the episode key goes with copy 0 alone (R29). -/
def BatchEntry.events (e : BatchEntry) (service base : Nat) : List Event :=
  if e.duration = 0 then []
  else (e.copies base).map fun (k, start, id) =>
    ⟨service, id, start, e.duration, e.tag, if k = 0 then e.key else none, e.capable⟩

/-- The batch's events (R29). -/
def Batch.events (b : Batch) : List Event := b.entries.flatMap fun e => e.events b.service b.base

/-- The copies of zero-duration entries (R29, R31). -/
def Batch.skipped (b : Batch) : Nat :=
  (b.entries.map fun e => if e.duration = 0 then e.repeats + 1 else 0).sum

/-- One entry passes the checks of R28. -/
def BatchEntry.allowed (e : BatchEntry) (base : Nat) : Bool :=
  decide (e.duration ≤ 86400) &&
    (e.repeats == 0 || (e.step != 0 && decide (60 ≤ e.spacing) && decide (e.spacing ≤ 86400))) &&
    (e.copies base).all fun (_, start, id) => decide (start + e.duration ≤ maxU32) && decide (id ≤ 65535)

/-- No value twice. -/
def distinct : List Nat → Bool
  | [] => true
  | x :: xs => !xs.contains x && distinct xs

/-- A batch passes the checks of R28. -/
def Batch.allowed (b : Batch) (services : List Service) : Bool :=
  (findService services b.service).isSome && decide (b.from_ ≤ b.to_) && b.entries.all (fun e => e.allowed b.base) &&
    distinct (b.events.map (·.id))

/-- What a batch makes of the event table (R30, R31): the table, the events removed, the updates as old and new, the events
inserted, and the number not stored. -/
structure BatchEffect where
  removed : List Event
  updates : List (Event × Event)
  inserted : List Event
  notStored : Nat

/-- The events of a service that start in a range (R30, R34). -/
def inRange (guide : List Event) (service from_ to_ : Nat) : List Event :=
  guide.filter fun e => e.service == service && decide (from_ ≤ e.start) && decide (e.start < to_)

/-- Steps 1 and 2 of R30 on the event table. -/
def updateGuide (guide : List Event) (removed : List Event) (updates : List (Event × Event)) : List Event :=
  let kept := guide.filter fun e =>
    !removed.contains e && !(updates.any fun u => u.1.ref == e.ref)
  updates.foldl (fun g u => insertEvent u.2 g) kept

/-- A batch applied to the event table: removal, update, insertion with the room rule (R30, R31). -/
def State.applyBatch (s : State) (b : Batch) : State × BatchEffect :=
  let events := b.events
  let removed := (inRange s.guide b.service b.from_ b.to_).filter fun e => !(events.any fun n => n.id == e.id)
  let updates := events.filterMap fun n => (findEvent s.guide n.ref).map fun old => (old, n)
  let fresh := sortBy eventBefore (events.filter fun n => (findEvent s.guide n.ref).isNone)
  let s := s.setGuide (updateGuide s.guide removed updates)
  let s := if fresh.length ≤ Config.maxEvents - s.guide.length then s else s.expire
  let inserted := fresh.take (Config.maxEvents - s.guide.length)
  (s.setGuide (inserted.foldl (fun g e => insertEvent e g) s.guide),
    ⟨removed, updates, inserted, fresh.length - inserted.length⟩)

/-- The Booking Table's part of a batch: removals in table order, then updates (R32 step 2, R35; log 11). -/
def State.bookBatch (s : State) (e : BatchEffect) : State :=
  let s := e.removed.foldl (fun s r => s.eventRemoved r.ref) s
  e.updates.foldl (fun s u => s.eventUpdated u.1 u.2) s

/-- The events handed to the Series Matcher: every event inserted or updated, in the order of the table, an update that expired in
step 3 among them (R30, R70). -/
def BatchEffect.handed (e : BatchEffect) : List Event := sortBy eventBefore (e.inserted ++ e.updates.map (·.2))

/-- A batch reaches its neighbours in order: event table, Booking Table, Series Matcher (R32). -/
def State.guideBatch (s : State) (b : Batch) : State × BatchEffect :=
  let r := s.applyBatch b
  let s := r.1.bookBatch r.2
  (s.matchBatch r.2.handed, r.2)

/-- Events removed by a drop, each handed to the Booking Table, in the order of the event table (R25, R34; log 11). -/
def State.dropEvents (s : State) (gone : List Event) : State :=
  let s := s.setGuide (s.guide.filter fun e => !(gone.contains e))
  gone.foldl (fun s e => s.eventRemoved e.ref) s

end Sys2Proof.Machine
end

