-- ==== Sys2Proof/Machine/General.lean ====
section
/-! DEFINITION. The general requests IDENTIFY, ECHO, LINK_STATS, UNKNOWN_KIND (R204, R206 to R208), and RESTART (R211). -/

namespace Sys2Proof.Machine

/-- IDENTIFY: answered with the part's codes and capacities; nothing changes (R206). -/
def execIdentify (tag : Byte) (body : List Byte) (s : State) : Host.Outcome State Fault Refusal :=
  request (.identify tag body) ⟨tag, Config.kindIdentify, body⟩
    (parsed (parseEmpty body) fun _ s => (s, .done .ok .identify)) s

/-- ECHO: answered with the same bytes; a 240-byte body is refused (R207). -/
def execEcho (tag : Byte) (body : List Byte) (s : State) : Host.Outcome State Fault Refusal :=
  request (.echo tag body) ⟨tag, Config.kindEcho, body⟩
    (parsed (parseEcho body) fun bytes s => (s, .done .ok (.echo bytes))) s

/-- LINK_STATS: the five counters as they stand, then all 0 (R208). -/
def execLinkStats (tag : Byte) (body : List Byte) (s : State) : Host.Outcome State Fault Refusal :=
  request (.linkStats tag body) ⟨tag, Config.kindLinkStats, body⟩
    (parsed (parseEmpty body) fun _ s =>
      (s.setLink { s.link with counters := .zero }, .done .ok (.counters s.link.counters))) s

/-- UNKNOWN_KIND: the kind names no request (R204 step 1). -/
def execUnknownKind (tag kind : Byte) (body : List Byte) (s : State) : Host.Outcome State Fault Refusal :=
  request (.unknownKind tag kind body) ⟨tag, kind, body⟩ (fun s => (s, .refuse .unknownKind)) s

/-! ## Restart (R211) -/

/-- Step 1: the Notice Queue emptied (R194). -/
def State.restartNotices (s : State) : State := s.setNotices ⟨[], false⟩

/-- A tuner at Restart: Unused, no counts, no tuned multiplex, change latch clear, fault latch kept (R158). -/
def Tuner.restarted (t : Tuner) : Tuner := { t.still .unused with tuned := none, changeLatch := false }

/-- Step 2: the Tuner Monitor, queuing no notice; the removal of a live claim counts as its release (R158, R88). -/
def State.restartTuners (s : State) : State :=
  let held := s.monitor.live.isSome
  let s := s.setMonitor ⟨s.monitor.a.restarted, s.monitor.b.restarted, none, none⟩
  if held then s.liveClaimChanged else s

/-- Step 3: the Wake Unit (R172); the WakeFailed count keeps its value. -/
def State.restartWake (s : State) : State :=
  s.setWake { s.wake with host := .up, attempt := none, pause := none, due := none, wakeAt := none, abandon := [] }

/-- A Due or Recording booking that Restart resumes: its effective end is after now, or its claim was Open with claim end after
now (R137 step 3). -/
def Booking.resumes (b : Booking) (now : Nat) : Bool :=
  (b.state == .due || b.state == .recording) &&
    ((match b.placement.stop? with
      | some e => decide (now < e)
      | none => false) ||
     (match b.items.overrun with
      | .opened _ stop => decide (now < stop)
      | _ => false))

/-- The Order Unit's items at Restart: no move target, candidate or late-move mark, overrun state None (R137 step 1). -/
def OrderItems.restarted (i : OrderItems) : OrderItems :=
  { i with moveTarget := none, candidate := none, lateMove := false, overrun := .none }

/-- Step 4 item 1: every order removed, the items cleared (R137). -/
def State.restartOrders (s : State) : State :=
  let s := s.setOrderList []
  s.setBook { s.book with records := s.book.records.map fun b => { b with items := b.items.restarted } }

/-- A Stopping booking finishes by R48 with StopUnconfirmed (R137 step 2). -/
def State.restartStopping (s : State) (h : Nat) : State :=
  match s.booking? h with
  | some b => s.finishCore h (b.outcome .unconfirmed) true
  | none => s

/-- A resumed booking goes back to Pending with Resumed and its BookingState notice, and a gap begins (R137 step 3, R51). -/
def State.resumeBooking (s : State) (h : Nat) : State :=
  (((s.modBooking h fun b =>
    { b with state := .pending, flags := { b.flags with resumed := true } }).beginGap h).bookingChanged h).noteState h

/-- The stop cause of a Recording booking that Restart does not resume: Slack at or past its AccurateSlack end, Schedule otherwise
(R131, R137 step 4; log 45). -/
def State.restartCause (s : State) (b : Booking) : StopCause :=
  if !b.timed && decide (s.slackEnd b ≤ s.now) then .slack else .schedule

/-- A Due or Recording booking that is not resumed: a new Start for the Due one, Stopping for the Recording one (R137 step 4). -/
def State.keepAtRestart (s : State) (h : Nat) : State :=
  match s.booking? h with
  | none => s
  | some b =>
    if b.state = .due then s.issue .start h b.placement.tuner? 1 false
    else if b.state = .recording then s.stop h (s.restartCause b) false
    else s

/-- Steps 2 to 5 of the Order Unit: Stopping bookings finish, the resumed ones return to Pending, the others are kept, the resumed ones
open (R137). Each goes in ascending handle, the last by R137, the three before it by choice (log 39). -/
def State.restartBookings (s : State) (stopping resumed kept : List Nat) : State :=
  let s := stopping.foldl State.restartStopping s
  let s := resumed.foldl State.resumeBooking s
  let s := kept.foldl State.keepAtRestart s
  resumed.foldl (fun s h => s.openBooking h true) s

/-- The whole of Restart in the order of R211. -/
def State.restart (s : State) : State × ReplyPlan :=
  let now := s.now
  let stopping := (s.book.records.filter fun b => b.state == .stopping).map (·.handle)
  let resumed := (s.book.records.filter fun b => b.resumes now).map (·.handle)
  let kept := (s.book.records.filter fun b =>
    (b.state == .due || b.state == .recording) && !b.resumes now).map (·.handle)
  let s := s.trigger.restartNotices.restartTuners.restartWake.restartOrders
  let s := s.restartBookings stopping resumed kept
  let s := s.setStorage { s.storage with low := false }
  (s.evaluateTuners, .done .ok (.restarted resumed.length stopping.length))

/-- RESTART (R211). -/
def execRestart (tag : Byte) (body : List Byte) (s : State) : Host.Outcome State Fault Refusal :=
  request (.restart tag body) ⟨tag, Config.kindRestart, body⟩ (parsed (parseEmpty body) fun _ s => s.restart) s

end Sys2Proof.Machine
end

