-- ==== Sys2Proof/Machine/SettingRows.lean ====
section
/-! DEFINITION. The SET_* rows and GET_SETTING (R209, R210): each stores its item as R209 brings it into range, and the owner acts on
a new value. -/

namespace Sys2Proof.Machine

open Config (Item)

/-- A coded choice as its number. -/
def boolCode (b : Bool) : Nat := if b then 1 else 0

/-- The value in force of an item, in the coding of the settings table. -/
def Settings.read (v : Settings) : Item → Nat
  | .linkRate => v.linkRate
  | .linkParity => boolCode v.parityEven
  | .rxTrigger => v.rxTrigger
  | .prePadDefault => v.prePadDefault
  | .postPadDefault => v.postPadDefault
  | .purgeAge => v.purgeAge
  | .feedMode => boolCode (v.feedMode == .loopThrough)
  | .liveRank => v.liveRank
  | .orderTimeout => v.orderTimeout
  | .runHold => v.runHold
  | .accurateSlack => v.accurateSlack
  | .lossHold => boolCode v.lossExtended
  | .gapLimit => v.gapLimit
  | .wakeMode => boolCode v.wakeOff
  | .wakeLead => v.wakeLead
  | .wakeTimeout => v.wakeTimeout
  | .spaceFloor => v.spaceFloor
  | .spaceHorizon => v.spaceHorizon
  | .spaceAlarm => boolCode v.spaceAlarm
  | .defaultRate => v.defaultRate
  | .noticeMask => v.noticeMask.toNat

/-- The settings with an item stored, its value in range. -/
def Settings.write (v : Settings) (n : Nat) : Item → Settings
  | .linkRate => { v with linkRate := n }
  | .linkParity => { v with parityEven := n == 1 }
  | .rxTrigger => { v with rxTrigger := n }
  | .prePadDefault => { v with prePadDefault := n }
  | .postPadDefault => { v with postPadDefault := n }
  | .purgeAge => { v with purgeAge := n }
  | .feedMode => { v with feedMode := if n = 1 then .loopThrough else .independent }
  | .liveRank => { v with liveRank := n }
  | .orderTimeout => { v with orderTimeout := n }
  | .runHold => { v with runHold := n }
  | .accurateSlack => { v with accurateSlack := n }
  | .lossHold => { v with lossExtended := n == 1 }
  | .gapLimit => { v with gapLimit := n }
  | .wakeMode => { v with wakeOff := n == 1 }
  | .wakeLead => { v with wakeLead := n }
  | .wakeTimeout => { v with wakeTimeout := n }
  | .spaceFloor => { v with spaceFloor := n }
  | .spaceHorizon => { v with spaceHorizon := n }
  | .spaceAlarm => { v with spaceAlarm := n == 1 }
  | .defaultRate => { v with defaultRate := n }
  | .noticeMask => { v with noticeMask := BitVec.ofNat 7 n }

/-- Into a range of whole numbers (R209). -/
def clampNat (low high n : Nat) : Nat := max low (min high n)

/-- The nearest permitted LinkRate; midway, the lower (R209). -/
def nearestRate (n : Nat) : Nat :=
  if n ≤ 86400 then 57600 else if n ≤ 172800 then 115200 else if n ≤ 345600 then 230400 else 460800

/-- The nearest permitted RxTrigger; midway, the lower (R209). -/
def nearestTrigger (n : Nat) : Nat := if n ≤ 24 then 16 else if n ≤ 40 then 32 else if n ≤ 52 then 48 else 56

/-- A value brought into an item's range (R209, the settings table). -/
def bringIn (n : Nat) : Item → Nat
  | .linkRate => nearestRate n
  | .linkParity => min n 1
  | .rxTrigger => nearestTrigger n
  | .prePadDefault => clampNat 0 3600 n
  | .postPadDefault => clampNat 0 7200 n
  | .purgeAge => clampNat 1 168 n
  | .feedMode => min n 1
  | .liveRank => clampNat 0 16 n
  | .orderTimeout => clampNat 5 120 n
  | .runHold => clampNat 1 30 n
  | .accurateSlack => clampNat 0 7200 n
  | .lossHold => min n 1
  | .gapLimit => clampNat 30 1800 n
  | .wakeMode => min n 1
  | .wakeLead => clampNat 60 1800 n
  | .wakeTimeout => clampNat 30 600 n
  | .spaceFloor => clampNat 0 65535 n
  | .spaceHorizon => clampNat 1 14 n
  | .spaceAlarm => min n 1
  | .defaultRate => clampNat 500 40000 n
  | .noticeMask => n % 128

/-- An item stored in the settings. -/
def State.storeSetting (s : State) (item : Item) (n : Nat) : State :=
  s.setLink { s.link with settings := s.link.settings.write n item }

/-- SetSetting of one item: the value brought into range; when it is new, stored and acted on; the reply carries the item code and
the stored value (R209). -/
def setItem (item : Item) (value : Nat) (act : State → State) : Owner := fun s =>
  let n := bringIn value item
  let reply := ReplyPlan.done (if n = value then .ok else .clamped) (.setting item.code n)
  if n = s.settings.read item then (s, reply) else (act (s.storeSetting item n), reply)

/-- The owner of a SET_* row of one item. -/
def settingOwner (item : Item) (body : List Byte) (act : State → State) : Owner :=
  parsed (parseSetSetting body) fun x => setItem item x.2 act

/-! ## What an owner does on a new value -/

/-- LinkRate and LinkParity wait for the end of the reply (R197). -/
def State.holdLine (s : State) : State :=
  s.setLink { s.link with pendingLine := some ⟨s.settings.linkRate, s.settings.parityEven⟩ }

/-- A new FeedMode: a pass trigger; from Independent to LoopThrough with FLTA high, tuner B's latch is set (R106, R150). -/
def State.feedModeChanged (s : State) : State :=
  let s := s.trigger
  if s.settings.feedMode = .loopThrough ∧ s.lines.faultA = true then s.setLatch .b else s

/-- A Finished record is old: now has reached finished at + PurgeAge × 3600 (R63). -/
def State.aged (s : State) (b : Booking) : Bool :=
  s.time.clockSet && b.state == .finished && (match b.finishedAt with
    | some t => decide (t + s.settings.purgeAge * 3600 ≤ s.now)
    | none => false)

/-- A new PurgeAge: the records whose age has passed are removed (R63). -/
def State.purgeAged (s : State) : State := s.removeRecords s.aged

/-- A new AccurateSlack: R132 acts at once, in ascending handle (log 39). -/
def State.slackChanged (s : State) : State := s.eachBooking State.slackRule

/-- A candidate that has stood for RunHold seconds completes at once (R129). -/
def State.runHoldRule (s : State) (h : Nat) : State :=
  match s.booking? h with
  | some b => if b.holds (·.reaches s.settings.runHold) then s.completeHold h else s
  | none => s

/-- A new RunHold: R129 acts at once, in ascending handle (log 39). -/
def State.runHoldChanged (s : State) : State := s.eachBooking State.runHoldRule

/-- A tuner's loss count runs, the lock line low, in Locked or in Tuning after its grace, and is as given (R144, R145). -/
def State.lossRuns (s : State) (x : TunerId) (test : Count → Bool) : Bool :=
  let t := s.tuner x
  (t.condition == .locked || (t.condition == .tuning && t.grace.isNone)) && !s.lockLine x && t.loss.any test

/-- A loss count completes: the tuner enters Lost (R144, R145). -/
def State.losesSignal (s : State) (x : TunerId) : State := s.changeTuner x ((s.tuner x).still .lost) .loss

/-- A loss count at or above the LossHold length completes at once (R141). -/
def State.completeLoss (s : State) (x : TunerId) : State :=
  if s.lossRuns x (·.reaches s.settings.lossLength) then s.losesSignal x else s

/-- A new LossHold: a count at or above the new length completes at once (R141), that of tuner A first (log 53). -/
def State.lossHoldChanged (s : State) : State := (s.completeLoss .a).completeLoss .b

/-- Waking, either attempt and phase. -/
def HostState.waking : HostState → Bool
  | .waking1 => true
  | .pausing1 => true
  | .waking2 => true
  | _ => false

/-- A new WakeMode, by the host state (R170). -/
def State.wakeModeChanged (s : State) : State :=
  if s.settings.wakeOff then
    if s.wake.host = .up then s
    else s.setWake { s.wake with
      host := .down, attempt := none, pause := none, due := none, wakeAt := none, abandon := [] }
  else if s.wake.host = .down then s.evaluateWake
  else s

/-- A WakeFailed notice offered, and counted whether kept or lost (R160, R167). -/
def State.wakeFails (s : State) (attempt : Nat) : State :=
  let due := s.wake.due.getD ⟨0, 0⟩
  (s.offer (.wakeFailed attempt due.at_ due.source)).setWake { s.wake with failed := min (s.wake.failed + 1) 255 }

/-- The abandon list on entry into Abandoned: placed Pending bookings, and holders of an undelivered Start or Move (R168). -/
def State.abandonList (s : State) : List Nat :=
  (s.book.records.filter fun b =>
    (b.state == .pending && b.placement.isPlaced) ||
      s.holdsUndelivered b.handle .start || s.holdsUndelivered b.handle .move).map (·.handle)

/-- A wake attempt's count runs and is as given (R160, R167). -/
def State.attemptRuns (s : State) (test : Count → Bool) : Bool :=
  (s.wake.host == .waking1 || s.wake.host == .waking2) && s.wake.attempt.any test

/-- A wake attempt's count completes: a pause after the first, Abandoned after the second (R167, R168). -/
def State.attemptCompletes (s : State) : State :=
  if s.wake.host = .waking1 then
    let s := s.wakeFails 1
    s.setWake { s.wake with host := .pausing1, attempt := none, pause := some 0 }
  else
    let s := s.wakeFails 2
    (s.setWake { s.wake with
      host := .abandoned, attempt := none, pause := none, due := none, wakeAt := none, abandon := s.abandonList }).evaluateWake

/-- A new WakeTimeout at or below the running attempt count completes it at once (R160; log 26). -/
def State.wakeTimeoutChanged (s : State) : State := 
  if s.attemptRuns (·.reaches s.settings.wakeTimeout) then s.attemptCompletes else s

/-- A new SpaceAlarm: off clears SpaceLow without a notice, on evaluates at once (R182). -/
def State.spaceAlarmChanged (s : State) : State :=
  if s.settings.spaceAlarm then s.evaluateStorage else s.setStorage { s.storage with low := false }

/-- A new NoticeMask: queued notices of the disabled classes are removed (R189). -/
def State.noticeMaskChanged (s : State) : State :=
  s.setNotices { s.notices with queue := s.notices.queue.filter fun n => enabled s.settings.noticeMask n.body }

/-! ## The rows -/

/-- SET_SETTING: the items without a row of their own are read at their next use; a code that names no item is refused with
BadField, and a body of another length with BadLength (R209; log 29). -/
def execSetSetting (tag : Byte) (body : List Byte) (s : State) : Host.Outcome State Fault Refusal :=
  request (.setSetting tag body) ⟨tag, Config.kindSetSetting, body⟩
    (parsed (parseSetSetting body) fun x s =>
      match Config.itemOf x.1 with
      | some item => setItem item x.2 id s
      | none => (s, .refuse .badField)) s

/-- SET_LINK_RATE (R197, R209). -/
def execSetLinkRate (tag : Byte) (body : List Byte) (s : State) : Host.Outcome State Fault Refusal :=
  request (.setLinkRate tag body) ⟨tag, Config.kindSetSetting, body⟩ (settingOwner .linkRate body State.holdLine) s

/-- SET_LINK_PARITY (R197, R209). -/
def execSetLinkParity (tag : Byte) (body : List Byte) (s : State) : Host.Outcome State Fault Refusal :=
  request (.setLinkParity tag body) ⟨tag, Config.kindSetSetting, body⟩ (settingOwner .linkParity body State.holdLine) s

/-- SET_RX_TRIGGER: RTS is set again at once (R201, R209). -/
def execSetRxTrigger (tag : Byte) (body : List Byte) (s : State) : Host.Outcome State Fault Refusal :=
  request (.setRxTrigger tag body) ⟨tag, Config.kindSetSetting, body⟩ (settingOwner .rxTrigger body State.driveRts) s

/-- SET_FEED_MODE (R106, R150, R209). -/
def execSetFeedMode (tag : Byte) (body : List Byte) (s : State) : Host.Outcome State Fault Refusal :=
  request (.setFeedMode tag body) ⟨tag, Config.kindSetSetting, body⟩ (settingOwner .feedMode body State.feedModeChanged) s

/-- SET_LIVE_RANK (R107, R209). -/
def execSetLiveRank (tag : Byte) (body : List Byte) (s : State) : Host.Outcome State Fault Refusal :=
  request (.setLiveRank tag body) ⟨tag, Config.kindSetSetting, body⟩ (settingOwner .liveRank body State.trigger) s

/-- SET_PURGE_AGE (R63, R209). -/
def execSetPurgeAge (tag : Byte) (body : List Byte) (s : State) : Host.Outcome State Fault Refusal :=
  request (.setPurgeAge tag body) ⟨tag, Config.kindSetSetting, body⟩ (settingOwner .purgeAge body State.purgeAged) s

/-- SET_ACCURATE_SLACK (R132, R209). -/
def execSetAccurateSlack (tag : Byte) (body : List Byte) (s : State) : Host.Outcome State Fault Refusal :=
  request (.setAccurateSlack tag body) ⟨tag, Config.kindSetSetting, body⟩
    (settingOwner .accurateSlack body State.slackChanged) s

/-- SET_RUN_HOLD (R129, R209). -/
def execSetRunHold (tag : Byte) (body : List Byte) (s : State) : Host.Outcome State Fault Refusal :=
  request (.setRunHold tag body) ⟨tag, Config.kindSetSetting, body⟩ (settingOwner .runHold body State.runHoldChanged) s

/-- SET_LOSS_HOLD (R141, R209). -/
def execSetLossHold (tag : Byte) (body : List Byte) (s : State) : Host.Outcome State Fault Refusal :=
  request (.setLossHold tag body) ⟨tag, Config.kindSetSetting, body⟩ (settingOwner .lossHold body State.lossHoldChanged) s

/-- SET_WAKE_MODE (R170, R209). -/
def execSetWakeMode (tag : Byte) (body : List Byte) (s : State) : Host.Outcome State Fault Refusal :=
  request (.setWakeMode tag body) ⟨tag, Config.kindSetSetting, body⟩ (settingOwner .wakeMode body State.wakeModeChanged) s

/-- SET_WAKE_LEAD: the due instant is evaluated again (R165, R170, R209). -/
def execSetWakeLead (tag : Byte) (body : List Byte) (s : State) : Host.Outcome State Fault Refusal :=
  request (.setWakeLead tag body) ⟨tag, Config.kindSetSetting, body⟩ (settingOwner .wakeLead body State.evaluateWake) s

/-- SET_WAKE_TIMEOUT (R160, R170, R209). -/
def execSetWakeTimeout (tag : Byte) (body : List Byte) (s : State) : Host.Outcome State Fault Refusal :=
  request (.setWakeTimeout tag body) ⟨tag, Config.kindSetSetting, body⟩
    (settingOwner .wakeTimeout body State.wakeTimeoutChanged) s

/-- SET_SPACE_ALARM (R182, R209). -/
def execSetSpaceAlarm (tag : Byte) (body : List Byte) (s : State) : Host.Outcome State Fault Refusal :=
  request (.setSpaceAlarm tag body) ⟨tag, Config.kindSetSetting, body⟩
    (settingOwner .spaceAlarm body State.spaceAlarmChanged) s

/-- SET_SPACE_FLOOR (R182, R209). -/
def execSetSpaceFloor (tag : Byte) (body : List Byte) (s : State) : Host.Outcome State Fault Refusal :=
  request (.setSpaceFloor tag body) ⟨tag, Config.kindSetSetting, body⟩
    (settingOwner .spaceFloor body State.evaluateStorage) s

/-- SET_SPACE_HORIZON (R182, R209). -/
def execSetSpaceHorizon (tag : Byte) (body : List Byte) (s : State) : Host.Outcome State Fault Refusal :=
  request (.setSpaceHorizon tag body) ⟨tag, Config.kindSetSetting, body⟩
    (settingOwner .spaceHorizon body State.evaluateStorage) s

/-- SET_DEFAULT_RATE (R182, R209). -/
def execSetDefaultRate (tag : Byte) (body : List Byte) (s : State) : Host.Outcome State Fault Refusal :=
  request (.setDefaultRate tag body) ⟨tag, Config.kindSetSetting, body⟩
    (settingOwner .defaultRate body State.evaluateStorage) s

/-- SET_NOTICE_MASK (R189, R209). -/
def execSetNoticeMask (tag : Byte) (body : List Byte) (s : State) : Host.Outcome State Fault Refusal :=
  request (.setNoticeMask tag body) ⟨tag, Config.kindSetSetting, body⟩
    (settingOwner .noticeMask body State.noticeMaskChanged) s

/-- GET_SETTING: the value last stored, pending or not (R210). -/
def execGetSetting (tag : Byte) (body : List Byte) (s : State) : Host.Outcome State Fault Refusal :=
  request (.getSetting tag body) ⟨tag, Config.kindGetSetting, body⟩
    (parsed (parseByte body) fun code s =>
      match Config.itemOf code with
      | some item => (s, .done .ok (.setting item.code (s.settings.read item)))
      | none => (s, .refuse .badField)) s

end Sys2Proof.Machine
end

