-- ==== Sys2Proof/Machine/TimeRows.lean ====
section
/-! DEFINITION. The clock's rows: TIME_REPORT, ZONE_REPORT, QUERY_TIME, SECOND_END, NEXT_CHANGE_TAKEN, LOCAL_DAY_START
(R2, R5, R12, R13, R14, R17). -/

namespace Sys2Proof.Machine

/-- The greatest and least values of a signed 32-bit field (R10). -/
def saturate32 (x : Int) : Int := clampInt (-2147483648) 2147483647 x

/-- A TimeReport carrying B: step, or slew with or without a drift estimate (R5, R10). -/
def State.timeReport (s : State) (b : Nat) : State × ReplyPlan :=
  let offset := s.time.offsetFrom b
  if s.time.steps offset then
    let old := s.now
    let s := s.stepClock b
    (s, .done .ok (.time .stepped (saturate32 offset) s.now s.time.trim s.time.slew false (some old)))
  else
    let r := s.time.slewTo offset b
    let s := s.setTime r.1
    (s, .done .ok (.time r.2.1 (saturate32 offset) s.now s.time.trim s.time.slew r.2.2 none))

/-- TIME_REPORT (R5 to R10). -/
def execTimeReport (tag : Byte) (body : List Byte) (s : State) : Host.Outcome State Fault Refusal :=
  request (.timeReport tag body) ⟨tag, Config.kindTimeReport, body⟩
    (parsed (parseTimeReport body) fun b s => s.timeReport b) s

/-- A ZoneReport: both offsets into range, the report stored, a change already due taken, the zone change announced to the Series
Matcher when anything was altered (R13 to R15, R80). A report that stores and at once takes a next change makes one announcement, after the taking (log 46). -/
def State.zoneReport (s : State) (z : ZoneFields) : State × ReplyPlan :=
  let offset := roundZone z.offset
  let next := z.next.map fun n => (⟨n.1, roundZone n.2⟩ : NextChange)
  let given := z.next.map fun n => (⟨n.1, n.2⟩ : NextChange)
  let changed := s.time.zone != offset || s.time.nextChange != next
  let s := (s.setTime { s.time with nextChange := next }).setZone offset .report
  let taken := s.nextChangeDue
  let s := if taken then s.takeNextChange else s
  let s := if changed || taken then s.instantiateAll true else s
  if offset = z.offset ∧ next = given then (s, .done .ok .code) else (s, .done .clamped (.zone offset next))

/-- ZONE_REPORT (R13). -/
def execZoneReport (tag : Byte) (body : List Byte) (s : State) : Host.Outcome State Fault Refusal :=
  request (.zoneReport tag body) ⟨tag, Config.kindZoneReport, body⟩
    (parsed (parseZoneReport body) fun z s => s.zoneReport z) s

/-- QUERY_TIME: all values taken together; nothing changes (R12). -/
def execQueryTime (tag : Byte) (body : List Byte) (s : State) : Host.Outcome State Fault Refusal :=
  request (.queryTime tag body) ⟨tag, Config.kindQueryTime, body⟩
    (parsed (parseEmpty body) fun _ s =>
      let t := s.time
      (s, .done .ok (.clock t.seconds t.sub t.trim t.slew t.clockSet t.zone t.nextChange))) s

/-- SECOND_END: the ticks left in the current second pass, and it ends (R2; log 8). -/
def execSecondEnd (s : State) : Host.Outcome State Fault Refusal :=
  event true (fun s => (s.countGap s.time.ticksLeft).endSecond) s

/-- NEXT_CHANGE_TAKEN: S has reached X of the held next change (R14, R15, R80). -/
def execNextChangeTaken (s : State) : Host.Outcome State Fault Refusal :=
  event s.nextChangeDue (fun s => s.takeNextChange.instantiateAll true) s

/-- A local day start: the last local date, expiry, instantiation (R17, R33, R79). -/
def State.startDay (s : State) : State :=
  ((s.setTime { s.time with lastDate := some s.today }).expire).instantiateAll false

/-- LOCAL_DAY_START (R17). -/
def execLocalDayStart (s : State) : Host.Outcome State Fault Refusal := event s.dayStartDue State.startDay s

end Sys2Proof.Machine
end

