-- ==== Sys2Proof/Machine/GuideRows.lean ====
section
/-! DEFINITION. The Catalogue's and the Guide Store's rows: MUX_LOAD, SERVICE_LOAD, MUX_DROP, SERVICE_DROP (R21 to R25), GUIDE_BATCH,
GUIDE_DROP, QUERY_EVENT (R27, R28, R34). -/

namespace Sys2Proof.Machine

/-- The multiplex table changed. -/
def State.setMuxes (s : State) (muxes : List Mux) : State := s.setCatalogue { s.catalogue with muxes := muxes }

/-- The service table changed. -/
def State.setServices (s : State) (services : List Service) : State := s.setCatalogue { s.catalogue with services := services }

/-- A booking in Due, Recording or Stopping is on a service (R22). -/
def State.servicePinned (s : State) (service : Nat) : Bool := s.book.records.any fun b => b.pinned && b.service == service

/-- A booking in Due, Recording or Stopping is on a service of a multiplex (R21). -/
def State.muxPinned (s : State) (mux : Nat) : Bool :=
  s.catalogue.services.any fun v => v.mux == mux && s.servicePinned v.index

/-- MuxLoad (R21). -/
def State.muxLoad (s : State) (id quadrant : Nat) : State × ReplyPlan :=
  if 3 < quadrant then (s, .refuse .badField)
  else
    match s.catalogue.muxes.find? fun m => m.id == id with
    | some m =>
      if m.quadrant = quadrant then (s, .done .ok (.index m.index))
      else if s.muxPinned m.index then (s, .refuse .inUse)
      else
        ((s.setMuxes (s.catalogue.muxes.map fun x => if x.id == id then { x with quadrant := quadrant } else x)).trigger,
          .done .ok (.index m.index))
    | none =>
      match firstFree (s.catalogue.muxes.map (·.index)) 0 Config.maxMuxes with
      | some i =>
        (s.setMuxes (insertBy (fun x y => decide (x.index < y.index)) ⟨i, id, quadrant⟩ s.catalogue.muxes),
          .done .ok (.index i))
      | none => (s, .refuse .noSpace)

/-- MUX_LOAD (R21). -/
def execMuxLoad (tag : Byte) (body : List Byte) (s : State) : Host.Outcome State Fault Refusal :=
  request (.muxLoad tag body) ⟨tag, Config.kindMuxLoad, body⟩ (parsed (parseMuxLoad body) fun x s => s.muxLoad x.1 x.2) s

/-- ServiceLoad (R22). -/
def State.serviceLoad (s : State) (f : ServiceFields) : State × ReplyPlan :=
  if (findMux s.catalogue.muxes f.mux).isNone ∨ 40000 < f.rate then (s, .refuse .badField)
  else
    match s.catalogue.services.find? fun v => v.number == f.number with
    | some v =>
      let stored := s.setServices (s.catalogue.services.map fun x =>
        if x.number == f.number then { x with mux := f.mux, rate := f.rate } else x)
      if v.mux = f.mux then (stored, .done .ok (.index v.index))
      else if s.servicePinned v.index then (s, .refuse .inUse)
      else (stored.trigger, .done .ok (.index v.index))
    | none =>
      match firstFree (s.catalogue.services.map (·.index)) 0 Config.maxServices with
      | some i =>
        (s.setServices (insertBy (fun x y => decide (x.index < y.index)) ⟨i, f.number, f.mux, f.rate⟩ s.catalogue.services),
          .done .ok (.index i))
      | none => (s, .refuse .noSpace)

/-- SERVICE_LOAD (R22). -/
def execServiceLoad (tag : Byte) (body : List Byte) (s : State) : Host.Outcome State Fault Refusal :=
  request (.serviceLoad tag body) ⟨tag, Config.kindServiceLoad, body⟩
    (parsed (parseServiceLoad body) fun f s => s.serviceLoad f) s

/-- The live claim names a multiplex (R24). -/
def State.liveNames (s : State) (mux : Nat) : Bool :=
  match s.monitor.live with
  | some c => c.mux == mux
  | none => false

/-- MuxDrop (R24). -/
def State.muxDrop (s : State) (index : Nat) : State × ReplyPlan :=
  if (findMux s.catalogue.muxes index).isNone then (s, .refuse .notFound)
  else if (s.catalogue.services.any fun v => v.mux == index) || s.liveNames index then (s, .refuse .inUse)
  else (s.setMuxes (s.catalogue.muxes.filter fun m => m.index != index), .done .ok .code)

/-- MUX_DROP (R24). -/
def execMuxDrop (tag : Byte) (body : List Byte) (s : State) : Host.Outcome State Fault Refusal :=
  request (.muxDrop tag body) ⟨tag, Config.kindMuxDrop, body⟩ (parsed (parseByte body) fun i s => s.muxDrop i) s

/-- A link names a service; a series link with Any names none (R25). -/
def Link.names (l : Link) (service : Nat) : Bool :=
  match l.part with
  | .series _ v _ _ => v == some service
  | .slot v _ _ _ _ => v == service

/-- An unfinished booking or a link holds a service (R25). -/
def State.serviceHeld (s : State) (service : Nat) : Bool :=
  (s.book.records.any fun b => b.unfinished && b.service == service) || s.links.any fun l => l.names service

/-- ServiceDrop (R25). -/
def State.serviceDrop (s : State) (index : Nat) : State × ReplyPlan :=
  if (findService s.catalogue.services index).isNone then (s, .refuse .notFound)
  else if s.serviceHeld index then (s, .refuse .inUse)
  else
    let gone := s.guide.filter fun e => e.service == index
    let s := s.dropEvents gone
    (s.setServices (s.catalogue.services.filter fun v => v.index != index), .done .ok (.count gone.length))

/-- SERVICE_DROP (R25). -/
def execServiceDrop (tag : Byte) (body : List Byte) (s : State) : Host.Outcome State Fault Refusal :=
  request (.serviceDrop tag body) ⟨tag, Config.kindServiceDrop, body⟩ (parsed (parseWord body) fun i s => s.serviceDrop i) s

/-- A checked batch and its reply (R28, R31). -/
def State.takeBatch (s : State) (b : Batch) : State × ReplyPlan :=
  if b.allowed s.catalogue.services then
    let r := s.guideBatch b
    (r.1, .done (if r.2.notStored = 0 then .ok else .truncated)
      (.batch r.2.removed.length r.2.updates.length r.2.inserted.length b.skipped r.2.notStored))
  else (s, .refuse .badField)

/-- GUIDE_BATCH (R28 to R32). -/
def execGuideBatch (tag : Byte) (body : List Byte) (s : State) : Host.Outcome State Fault Refusal :=
  request (.guideBatch tag body) ⟨tag, Config.kindGuideBatch, body⟩
    (parsed (parseGuideBatch body) fun b s => s.takeBatch b) s

/-- GuideDrop (R34). -/
def State.guideDrop (s : State) (f : DropFields) : State × ReplyPlan :=
  if (findService s.catalogue.services f.service).isNone then (s, .refuse .badField)
  else
    match f.range with
    | none =>
      let gone := s.guide.filter fun e => e.service == f.service
      (s.dropEvents gone, .done .ok (.count gone.length))
    | some (from_, to_) =>
      if to_ < from_ then (s, .refuse .badField)
      else
        let gone := inRange s.guide f.service from_ to_
        (s.dropEvents gone, .done .ok (.count gone.length))

/-- GUIDE_DROP (R34). -/
def execGuideDrop (tag : Byte) (body : List Byte) (s : State) : Host.Outcome State Fault Refusal :=
  request (.guideDrop tag body) ⟨tag, Config.kindGuideDrop, body⟩ (parsed (parseGuideDrop body) fun f s => s.guideDrop f) s

/-- QueryEvent (R27). -/
def State.queryEvent (s : State) (ref : EventRef) : ReplyPlan :=
  if (findService s.catalogue.services ref.service).isNone then .refuse .badField
  else
    match findEvent s.guide ref with
    | none => .refuse .notFound
    | some e =>
      .done .ok (.event e (match s.mainHolder? ref with
        | some b => b.handle
        | none => 0))

/-- QUERY_EVENT (R27). -/
def execQueryEvent (tag : Byte) (body : List Byte) (s : State) : Host.Outcome State Fault Refusal :=
  request (.queryEvent tag body) ⟨tag, Config.kindQueryEvent, body⟩
    (parsed (parseEventRef body) fun ref s => (s, s.queryEvent ref)) s

end Sys2Proof.Machine
end

