-- ==== Sys2Proof/Machine/BookingRows.lean ====
section
/-! DEFINITION. The Booking Table's requests: BOOK_EVENT, BOOK_TIME, AMEND, CANCEL, PURGE, QUERY_BOOKING, LIST_BOOKINGS (R54 to
R62). -/

namespace Sys2Proof.Machine

/-- The values a creation stores: those given, clamped, and the defaults for the others (R54, R55). -/
def Options.stored (o : Options) (v : Settings) (capable : Bool) : Stored :=
  { priority := min (o.priority.getD 8) 15
    prePad := min (o.prePad.getD v.prePadDefault) 3600
    postPad := min (o.postPad.getD v.postPadDefault) 7200
    accurate := o.accurate.getD false && capable }

/-- A value given was adjusted (R55). -/
def Options.adjusted (o : Options) (capable : Bool) : Bool :=
  decide (15 < o.priority.getD 0) || decide (3600 < o.prePad.getD 0) || decide (7200 < o.postPad.getD 0) ||
    (o.accurate.getD false && !capable)

/-- Ok, or Clamped with the stored values (R54, R55). -/
def clampedReply (adjusted : Bool) (v : Stored) : Result × Option Stored := if adjusted then (.clamped, some v) else (.ok, none)

/-- A window's end is at or before now, the clock being set (R54, R56). -/
def State.isPast (s : State) (stop : Nat) : Bool := s.time.clockSet && decide (stop ≤ s.now)

/-- BookEvent: its checks in order, then the record (R54, R55). -/
def State.bookEvent (s : State) (ref : EventRef) (o : Options) : State × ReplyPlan :=
  if (findService s.catalogue.services ref.service).isNone then (s, .refuse .badField)
  else
    match findEvent s.guide ref with
    | none => (s, .refuse .notFound)
    | some e =>
      if e.duration < 60 then (s, .refuse .badField)
      else if s.isPast e.stop then (s, .refuse .past)
      else
        match s.mainHolder? ref with
        | some b => (s, .done .duplicate (.duplicate b.handle))
        | none =>
          let v := o.stored s.settings e.capable
          match s.create fun h =>
              freshBooking h .event e.service e.start e.stop (some e) v.priority v.prePad v.postPad v.accurate with
          | none => (s, .refuse .noSpace)
          | some (h, s) =>
            let r := clampedReply (o.adjusted e.capable) v
            (s.takeFromAlternatives ref, .booked r.1 h r.2)

/-- BOOK_EVENT (R54). -/
def execBookEvent (tag : Byte) (body : List Byte) (s : State) : Host.Outcome State Fault Refusal :=
  request (.bookEvent tag body) ⟨tag, Config.kindBookEvent, body⟩
    (parsed (parseBookEvent body) fun x s => s.bookEvent x.1 x.2) s

/-- The unfinished booking of origin Time on the same service and nominal window (R56 check 3); the one of lowest handle where several are
(log 61). -/
def State.timeTwin (s : State) (f : TimeFields) : Option Booking :=
  s.book.records.find? fun b =>
    b.unfinished && b.origin == .time && b.service == f.service && b.nominalStart == f.start &&
      b.nominalStop == f.start + f.duration

/-- BookTime: its checks in order, then the record (R56). -/
def State.bookTime (s : State) (f : TimeFields) (o : Options) : State × ReplyPlan :=
  if (findService s.catalogue.services f.service).isNone ∨ f.duration < 60 ∨ 86400 < f.duration ∨
      maxU32 < f.start + f.duration then (s, .refuse .badField)
  else if s.isPast (f.start + f.duration) then (s, .refuse .past)
  else
    match s.timeTwin f with
    | some b => (s, .done .duplicate (.duplicate b.handle))
    | none =>
      let v := o.stored s.settings false
      match s.create fun h =>
          freshBooking h .time f.service f.start (f.start + f.duration) none v.priority v.prePad v.postPad v.accurate with
      | none => (s, .refuse .noSpace)
      | some (h, s) =>
        let r := clampedReply (o.adjusted false) v
        (s, .booked r.1 h r.2)

/-- BOOK_TIME (R56). -/
def execBookTime (tag : Byte) (body : List Byte) (s : State) : Host.Outcome State Fault Refusal :=
  request (.bookTime tag body) ⟨tag, Config.kindBookTime, body⟩
    (parsed (parseBookTime body) fun x s => s.bookTime x.1 x.2) s

/-! ## Amend (R57, R58) -/

/-- The record with the values given stored, clamped; an absent field keeps its value (R57). -/
def Booking.amended (b : Booking) (o : Options) (capable : Bool) : Booking :=
  { b with
    priority := match o.priority with
      | some p => min p 15
      | none => b.priority
    prePad := match o.prePad with
      | some p => min p 3600
      | none => b.prePad
    postPad := match o.postPad with
      | some p => min p 7200
      | none => b.postPad
    accurate := match o.accurate with
      | some a => a && capable
      | none => b.accurate }

/-- The values a booking stores. -/
def Booking.values (b : Booking) : Stored := ⟨b.priority, b.prePad, b.postPad, b.accurate⟩

/-- The booking holds a main event that is accurate-capable (R57). -/
def State.mainCapable (s : State) (b : Booking) : Bool :=
  match b.main with
  | some m =>
    match findEvent s.guide m with
    | some e => e.capable
    | none => false
  | none => false

/-- The record of a Pending or Armed booking after Amend: with accurate cleared the report record goes (R128), and an Armed booking
returns to Pending; so does one whose padded start lies ahead (R57). Its start is judged on the placement of the pass that follows
(R65). -/
def Booking.amendPlanned (b : Booking) (o : Options) (capable : Bool) (now : Nat) : Booking :=
  let x := { b.amended o capable with replan := true }
  let cleared := b.accurate && !x.accurate
  let x := if cleared then { x with items := x.items.dropReport } else x
  if b.state = .armed ∧ (cleared = true ∨ now < x.paddedStart) then
    { x with state := .pending, items := x.items.dropCandidate }
  else x

/-- Amend in Pending or Armed (R57). -/
def State.amendPlanned (s : State) (b : Booking) (o : Options) : State × ReplyPlan :=
  let capable := s.mainCapable b
  let now := s.now
  let x := b.amendPlanned o capable now
  let r := clampedReply (o.adjusted capable) x.values
  let s := (s.modBooking b.handle fun _ => x).bookingChanged b.handle
  let s :=
    if b.state = .pending ∧ s.time.clockSet = true ∧ x.paddedStop ≤ s.now ∧ x.placement.isUnplaced = true then
      s.finish b.handle ⟨.missed, .clash⟩ false
    else if x != { b with replan := true } then s.noteState b.handle
    else s
  (s, .booked r.1 b.handle r.2)

/-- The effective end of a Recording booking after Amend (R58). One above the old padded end, as a Full claim leaves it, keeps its
value (log 41). -/
def State.amendedEnd (s : State) (b x : Booking) : Placement :=
  match b.placement with
  | .placed t a e =>
    if e = b.paddedStop then
      if e < x.paddedStop then .placed t a (s.longerEnd b t e x.paddedStop) else .placed t a x.paddedStop
    else b.placement
  | other => other

/-- The effective end of a placement is at or before now. -/
def Placement.endsBy (p : Placement) (now : Nat) : Bool :=
  match p.stop? with
  | some e => decide (e ≤ now)
  | Option.none => false

/-- Amend in Recording: a shorter end at or before now is reached at once (R58, R131). -/
def State.amendRecording (s : State) (b : Booking) (o : Options) : State × ReplyPlan :=
  if o.prePad.isSome || o.accurate.isSome then (s, .refuse .stateMismatch)
  else
    let x := { b.amended o false with accurate := b.accurate }
    let placement := s.amendedEnd b x
    let r := clampedReply (o.adjusted false) x.values
    let shorter := decide (x.paddedStop < b.paddedStop) && placement != b.placement
    let s := (s.modBooking b.handle fun _ => { x with placement := placement }).trigger
    let s := if x != b then s.noteState b.handle else s
    let s := if shorter && placement.endsBy s.now && s.time.clockSet then
        (s.modItems b.handle fun i => { i with endTaken := placement.stop? }).endRuleUnlessOpen b.handle
      else s
    (s, .booked r.1 b.handle r.2)

/-- Amend, by the booking's state (R57, R58). -/
def State.amend (s : State) (h : Nat) (o : Options) : State × ReplyPlan :=
  match s.booking? h with
  | none => (s, .refuse .notFound)
  | some b =>
    match b.state with
    | .pending => s.amendPlanned b o
    | .armed => s.amendPlanned b o
    | .recording => s.amendRecording b o
    | _ => (s, .refuse .stateMismatch)

/-- AMEND (R57). -/
def execAmend (tag : Byte) (body : List Byte) (s : State) : Host.Outcome State Fault Refusal :=
  request (.amend tag body) ⟨tag, Config.kindAmend, body⟩ (parsed (parseAmend body) fun x s => s.amend x.1 x.2) s

/-! ## Cancel, Purge, queries -/

/-- A booking cancelled before any recording: Finished, Cancelled (Request) (R59); the due instant is evaluated without it (R173). -/
def State.cancelPlanned (s : State) (h : Nat) : State × ReplyPlan :=
  ((s.finish h ⟨.cancelled, .request⟩ false).evaluateWake, .done .ok (.lifecycle .finished))

/-- A booking cancelled after its Start was delivered: Stopping with stop cause Cancel (R59). -/
def State.cancelRunning (s : State) (h : Nat) : State × ReplyPlan :=
  ((s.stop h .cancel false).trigger, .done .ok (.lifecycle .stopping))

/-- Cancel, by the booking's state (R59). -/
def State.cancel (s : State) (h : Nat) : State × ReplyPlan :=
  match s.booking? h with
  | none => (s, .refuse .notFound)
  | some b =>
    match b.state with
    | .pending => s.cancelPlanned h
    | .armed => s.cancelPlanned h
    | .due => if s.holdsDelivered h .start then s.cancelRunning h else s.cancelPlanned h
    | .recording => s.cancelRunning h
    | _ => (s, .refuse .stateMismatch)

/-- CANCEL (R59). -/
def execCancel (tag : Byte) (body : List Byte) (s : State) : Host.Outcome State Fault Refusal :=
  request (.cancel tag body) ⟨tag, Config.kindCancel, body⟩ (parsed (parseWord body) fun h s => s.cancel h) s

/-- Purge: a handle, or All as handle 0 (R62, R213). -/
def State.purge (s : State) (h : Nat) : State × ReplyPlan :=
  if h = 0 then
    let n := (s.book.records.filter fun b => b.state == .finished).length
    (s.removeRecords fun b => b.state == .finished, .done .ok (.count n))
  else
    match s.booking? h with
    | none => (s, .refuse .notFound)
    | some b =>
      if b.state = .finished then (s.removeRecords fun x => x.handle == h, .done .ok .code)
      else (s, .refuse .stateMismatch)

/-- PURGE (R62). -/
def execPurge (tag : Byte) (body : List Byte) (s : State) : Host.Outcome State Fault Refusal :=
  request (.purge tag body) ⟨tag, Config.kindPurge, body⟩ (parsed (parseWord body) fun h s => s.purge h) s

/-- QueryBooking (R60). -/
def State.queryBooking (s : State) (h : Nat) : ReplyPlan :=
  if h = 0 then .refuse .badField
  else
    match s.booking? h with
    | none => .refuse .notFound
    | some b => .done .ok (.record b)

/-- QUERY_BOOKING (R60). -/
def execQueryBooking (tag : Byte) (body : List Byte) (s : State) : Host.Outcome State Fault Refusal :=
  request (.queryBooking tag body) ⟨tag, Config.kindQueryBooking, body⟩
    (parsed (parseWord body) fun h s => (s, s.queryBooking h)) s

/-- A filter admits a state (R61). -/
def Filter.admits (f : Filter) (b : Booking) : Bool :=
  match f with
  | .any => true
  | .unfinished => b.unfinished
  | .finished => !b.unfinished

/-- ListBookings: up to 60 entries from the start handle on, and the more flag (R61). -/
def State.listBookings (s : State) (start : Nat) (f : Filter) : ReplyPlan :=
  let admitted := s.book.records.filter fun b => decide (max start 1 ≤ b.handle) && f.admits b
  .done .ok (.listing ((admitted.take 60).map fun b => (b.handle, b.state)) (decide (60 < admitted.length)))

/-- LIST_BOOKINGS (R61). -/
def execListBookings (tag : Byte) (body : List Byte) (s : State) : Host.Outcome State Fault Refusal :=
  request (.listBookings tag body) ⟨tag, Config.kindListBookings, body⟩
    (parsed (parseListBookings body) fun x s => (s, s.listBookings x.1 x.2)) s

end Sys2Proof.Machine
end

