-- ==== Sys2Proof/Machine/LinkRows.lean ====
section
/-! DEFINITION. The Series Matcher's requests: LINK_SERIES, LINK_SLOT, UNLINK, QUERY_LINK (R68, R69, R81, R82). -/

namespace Sys2Proof.Machine

/-- The lowest free link index (R66). -/
def State.freeLink (s : State) : Option Nat := firstFree (s.links.map (·.index)) 0 Config.maxLinks

/-- A link in its place in ascending index. -/
def State.addLink (s : State) (l : Link) : State :=
  s.setLinks (insertBy (fun x y => decide (x.index < y.index)) l s.links)

/-- A new link with the values stored for it; Starved clear (R67, R68). -/
def newLink (index : Nat) (v : Stored) (part : LinkPart) : Link :=
  ⟨index, v.priority, v.prePad, v.postPad, v.accurate, false, part⟩

/-- The Starved flag of the link at an index. -/
def State.starvedAt (s : State) (index : Nat) : Bool :=
  match s.link? index with
  | some l => l.starved
  | none => false

/-- The reply to the making of a link (R68, R69). -/
def linkReply (m : Matched) (index : Nat) (adjusted : Bool) (v : Stored) : State × ReplyPlan :=
  let r := clampedReply adjusted v
  (m.state, .done r.1 (.linkMade index m.created (m.state.starvedAt index) r.2))

/-- The link follows the same tag on the same service (R68 check 2). -/
def Link.sameSeries (l : Link) (tag : Nat) (service : Option Nat) : Bool :=
  match l.part with
  | .series t v _ _ => t == tag && v == service
  | .slot _ _ _ _ _ => false

/-- LinkSeries: its checks in order, the link, its full match (R68). The history of the new link is empty, whatever links stood before it
(R67, R81; log 48). -/
def State.linkSeries (s : State) (f : SeriesFields) (o : Options) : State × ReplyPlan :=
  let badService := match f.service with
    | some v => (findService s.catalogue.services v).isNone
    | none => false
  if f.tag = 0 ∨ badService = true then (s, .refuse .badField)
  else
    match s.links.find? fun l => l.sameSeries f.tag f.service with
    | some l => (s, .done .duplicate (.duplicate l.index))
    | none =>
      match s.freeLink with
      | none => (s, .refuse .noSpace)
      | some i =>
        let v := o.stored s.settings true
        let s := s.addLink (newLink i v (.series f.tag f.service f.policy []))
        linkReply (s.fullMatch i) i (o.adjusted true) v

/-- LINK_SERIES (R68). -/
def execLinkSeries (tag : Byte) (body : List Byte) (s : State) : Host.Outcome State Fault Refusal :=
  request (.linkSeries tag body) ⟨tag, Config.kindLinkSeries, body⟩
    (parsed (parseLinkSeries body) fun x s => s.linkSeries x.1 x.2) s

/-- The slot link has the same service, weekdays, minute and duration (R69 check 2). -/
def Link.sameSlot (l : Link) (f : SlotFields) : Bool :=
  match l.part with
  | .slot v w m d _ => v == f.service && w == f.weekdays && m == f.minute && d == f.duration
  | .series _ _ _ _ => false

/-- LinkSlot: its checks in order, the link, its instantiation while the clock is set (R69). -/
def State.linkSlot (s : State) (f : SlotFields) (o : Options) : State × ReplyPlan :=
  if (findService s.catalogue.services f.service).isNone ∨ f.weekdays = 0#7 ∨ 1439 < f.minute ∨ f.duration < 60 ∨
      86400 < f.duration then (s, .refuse .badField)
  else
    match s.links.find? fun l => l.sameSlot f with
    | some l => (s, .done .duplicate (.duplicate l.index))
    | none =>
      match s.freeLink with
      | none => (s, .refuse .noSpace)
      | some i =>
        let v := o.stored s.settings false
        let s := s.addLink (newLink i v (.slot f.service f.weekdays f.minute f.duration []))
        linkReply (s.instantiate i false) i (o.adjusted false) v

/-- LINK_SLOT (R69). -/
def execLinkSlot (tag : Byte) (body : List Byte) (s : State) : Host.Outcome State Fault Refusal :=
  request (.linkSlot tag body) ⟨tag, Config.kindLinkSlot, body⟩
    (parsed (parseLinkSlot body) fun x s => s.linkSlot x.1 x.2) s

/-! ## Unlink (R81) -/

/-- A booking's origin names a link (R81). -/
def Booking.ofLink (b : Booking) (index : Nat) : Bool := b.origin == .series index || b.origin == .slot index

/-- The origin a booking of a removed link takes: Event for a series link, Time for a slot link (R81). -/
def Origin.unlinked : Origin → Origin
  | .series _ => .event
  | .slot _ => .time
  | o => o

/-- One booking of the link rewritten; an unfinished one that lost alternatives gets its notice, and is a change (R81). -/
def State.rewriteOrigin (s : State) (h : Nat) : State :=
  match s.booking? h with
  | none => s
  | some b =>
    let lost := b.unfinished && !b.alternatives.isEmpty
    let s := s.modBooking h fun b => { b with origin := b.origin.unlinked, alternatives := [] }
    if lost then (s.bookingChanged h).noteState h else s

/-- Unlink: the cancellations first, then the origins, each in ascending handle (log 39), then the index is freed (R81). -/
def State.unlink (s : State) (index : Nat) (keep : Bool) : State × ReplyPlan :=
  if 47 < index then (s, .refuse .badField)
  else if (s.link? index).isNone then (s, .refuse .notFound)
  else
    let open_ := (s.book.records.filter fun b => b.ofLink index && b.unfinished).map (·.handle)
    let cancelled :=
      if keep then [] else (s.book.records.filter fun b => b.ofLink index && b.planned).map (·.handle)
    let s := cancelled.foldl (fun s h => s.finish h ⟨.cancelled, .unlinked⟩ false) s
    let named := (s.book.records.filter fun b => b.ofLink index).map (·.handle)
    let s := named.foldl State.rewriteOrigin s
    (s.setLinks (s.links.filter fun l => l.index != index),
      .done .ok (.unlinked cancelled.length (open_.length - cancelled.length)))

/-- UNLINK (R81). -/
def execUnlink (tag : Byte) (body : List Byte) (s : State) : Host.Outcome State Fault Refusal :=
  request (.unlink tag body) ⟨tag, Config.kindUnlink, body⟩ (parsed (parseUnlink body) fun x s => s.unlink x.1 x.2) s

/-- QueryLink (R82). -/
def State.queryLink (s : State) (index : Nat) : ReplyPlan :=
  if 47 < index then .refuse .badField
  else
    match s.link? index with
    | none => .refuse .notFound
    | some l => .done .ok (.link l (s.book.records.filter fun b => b.unfinished && b.ofLink index).length)

/-- QUERY_LINK (R82). -/
def execQueryLink (tag : Byte) (body : List Byte) (s : State) : Host.Outcome State Fault Refusal :=
  request (.queryLink tag body) ⟨tag, Config.kindQueryLink, body⟩
    (parsed (parseByte body) fun i s => (s, s.queryLink i)) s

end Sys2Proof.Machine
end

