-- ==== Sys2Proof/Machine/PlanRows.lean ====
section
/-! DEFINITION. The Planner's rows: QUERY_PLAN, QUERY_CLASHES (R108, R109), PASS_END (R89), YIELD_TIME_REACHED (R102). -/

namespace Sys2Proof.Machine

/-- An occupancy's span overlaps a range; an empty range overlaps none, and an open span overlaps every range whose end is after its
start (R108). -/
def Occupancy.overlapsRange (o : Occupancy) (from_ to_ : Nat) : Bool :=
  decide (from_ < to_) && decide (o.start < to_) && (match o.stop with
    | none => true
    | some e => decide (from_ < e))

/-- QueryPlan (R108). -/
def State.queryPlan (s : State) (f : PlanFields) : ReplyPlan :=
  if f.to_ < f.from_ then .refuse .badField
  else
    let all := s.planner.plan.filter fun o => o.tuner == f.tuner && o.overlapsRange f.from_ f.to_
    let rest := all.drop f.skip
    .done .ok (.plan s.planner.lastT0 s.planner.running.isSome all.length (rest.take 12) (decide (12 < rest.length)))

/-- QUERY_PLAN (R108). -/
def execQueryPlan (tag : Byte) (body : List Byte) (s : State) : Host.Outcome State Fault Refusal :=
  request (.queryPlan tag body) ⟨tag, Config.kindQueryPlan, body⟩
    (parsed (parseQueryPlan body) fun f s => (s, s.queryPlan f)) s

/-- QueryClashes (R109). -/
def State.queryClashes (s : State) (start : Nat) : ReplyPlan :=
  let rest := s.planner.clashes.drop start
  .done .ok (.clashes s.planner.lastT0 s.planner.clashes.length (rest.take 8) (decide (8 < rest.length)))

/-- QUERY_CLASHES (R109). -/
def execQueryClashes (tag : Byte) (body : List Byte) (s : State) : Host.Outcome State Fault Refusal :=
  request (.queryClashes tag body) ⟨tag, Config.kindQueryClashes, body⟩
    (parsed (parseByte body) fun i s => (s, s.queryClashes i)) s

/-- PASS_END: the Running pass ends (R89). -/
def execPassEnd (s : State) : Host.Outcome State Fault Refusal :=
  event s.planner.running.isSome (fun s =>
    match s.planner.running with
    | some p => s.endPass p
    | none => s) s

/-- The yield time of the live placement. -/
def State.yieldTime (s : State) : Option Nat := s.monitor.live.bind fun c => c.placement.bind (·.yieldAt)

/-- Now has reached the yield time, and its reaching was not taken yet (R102; log 20); a yield time at or before now when it was handed is
reached once as well (log 50). -/
def State.yieldDue (s : State) : Bool :=
  s.time.clockSet && s.monitor.yieldTaken != s.yieldTime && (match s.yieldTime with
    | some y => decide (y ≤ s.now)
    | none => false)

/-- YIELD_TIME_REACHED: a pass trigger (R102). -/
def execYieldTimeReached (s : State) : Host.Outcome State Fault Refusal :=
  event s.yieldDue (fun s => (s.setMonitor { s.monitor with yieldTaken := s.yieldTime }).trigger) s

end Sys2Proof.Machine
end

