-- ==== Sys2Proof/Machine/TunerRows.lean ====
section
/-! DEFINITION. The Tuner Monitor's rows: LIVE_CLAIM, LIVE_RELEASE, CLEAR_FAULT, QUERY_TUNER, the counts, the lock and fault lines
(R144 to R156). -/

namespace Sys2Proof.Machine

/-! ## The live claim (R155, R156) -/

/-- LiveClaim; the same claim again is answered with the placement held (R155; log 44). -/
def State.liveClaim (s : State) (mux : Nat) (named : TunerId) : State × ReplyPlan :=
  if (findMux s.catalogue.muxes mux).isNone then (s, .refuse .badField)
  else
    match s.monitor.live with
    | none => ((s.setMonitor { s.monitor with live := some ⟨mux, named, none⟩ }).liveClaimChanged, .live)
    | some c =>
      if c.mux = mux ∧ c.named = named then (s, .done .ok (.livePlacement c.placement))
      else
        ((s.setMonitor { s.monitor with live := some { c with mux := mux, named := named } }).liveClaimChanged, .live)

/-- LIVE_CLAIM (R155). -/
def execLiveClaim (tag : Byte) (body : List Byte) (s : State) : Host.Outcome State Fault Refusal :=
  request (.liveClaim tag body) ⟨tag, Config.kindLiveClaim, body⟩
    (parsed (parseLiveClaim body) fun x s => s.liveClaim x.1 x.2) s

/-- The claim and its placement removed: a pass trigger, and the in-use rule (R156). -/
def State.releaseLive (s : State) : State :=
  match s.monitor.live with
  | none => s
  | some _ => (s.setMonitor { s.monitor with live := none }).liveClaimChanged.evaluateTuners

/-- LIVE_RELEASE (R156). -/
def execLiveRelease (tag : Byte) (body : List Byte) (s : State) : Host.Outcome State Fault Refusal :=
  request (.liveRelease tag body) ⟨tag, Config.kindLiveRelease, body⟩
    (parsed (parseEmpty body) fun _ s => (s.releaseLive, .done .ok (.liveReleased s.monitor.live.isNone))) s

/-! ## Fault latches and queries (R151, R154) -/

/-- A fault line that would latch the tuner under the FeedMode in force is high (R151). -/
def State.latchHeld (s : State) (x : TunerId) : Bool :=
  match x with
  | .a => s.lines.faultA
  | .b => s.lines.faultB || (s.settings.feedMode == .loopThrough && s.lines.faultA)

/-- What a ClearFault reply carries (R151). -/
def State.faultReply (s : State) (x : TunerId) : ReplyPlan :=
  .done .ok (.faultCleared (s.tuner x).condition (s.tuner x).faultLatch)

/-- ClearFault; for a clear latch too the reply carries condition and latch (R151; log 44). -/
def State.clearFault (s : State) (x : TunerId) : State × ReplyPlan :=
  if s.latchHeld x then (s, .refuse .stateMismatch)
  else if (s.tuner x).faultLatch then
    let t := { s.tuner x with faultLatch := false }
    let s := (s.changeTuner x (if t.condition = .faulted then t.tuning else t) .clear).trigger
    (s, s.faultReply x)
  else (s, s.faultReply x)

/-- CLEAR_FAULT (R151). -/
def execClearFault (tag : Byte) (body : List Byte) (s : State) : Host.Outcome State Fault Refusal :=
  request (.clearFault tag body) ⟨tag, Config.kindClearFault, body⟩
    (parsed (parseClearFault body) fun x s => s.clearFault x) s

/-- What QueryTuner reads of a tuner (R154). -/
def State.view (s : State) (x : TunerId) : TunerView := ⟨s.tuner x, s.inUse x, s.lockLine x, s.faultLine x⟩

/-- Both change latches cleared (R154). -/
def State.clearChanges (s : State) : State :=
  s.setMonitor { s.monitor with
    a := { s.monitor.a with changeLatch := false }
    b := { s.monitor.b with changeLatch := false } }

/-- QUERY_TUNER (R154). -/
def execQueryTuner (tag : Byte) (body : List Byte) (s : State) : Host.Outcome State Fault Refusal :=
  request (.queryTuner tag body) ⟨tag, Config.kindQueryTuner, body⟩
    (parsed (parseEmpty body) fun _ s =>
      (s.clearChanges, .done .ok (.tuners (s.view .a) (s.view .b) s.monitor.live))) s

/-! ## Counts (R144 to R146) -/

/-- The grace count of a tuner in Tuning has reached its length (R143). -/
def State.graceDue (s : State) (x : TunerId) : Bool :=
  (s.tuner x).condition == .tuning && (match (s.tuner x).grace with
    | some n => decide (Config.graceSeconds ≤ n)
    | none => false)

/-- The grace count completes: Locked with the lock line high, otherwise the loss count begins (R144). -/
def State.completeGrace (s : State) (x : TunerId) : State :=
  if s.lockLine x then s.changeTuner x ((s.tuner x).still .locked) .grace
  else s.setTuner x { s.tuner x with grace := none, loss := some .zero }

/-- GRACE_COUNT_COMPLETE (R144). -/
def execGraceCountComplete (x : TunerId) (s : State) : Host.Outcome State Fault Refusal :=
  event (s.graceDue x) (fun s => s.completeGrace x) s

/-- LOSS_COUNT_COMPLETE (R144, R145). -/
def execLossCountComplete (x : TunerId) (s : State) : Host.Outcome State Fault Refusal :=
  event (s.lossRuns x (·.complete)) (fun s => s.losesSignal x) s

/-- The regain count of a tuner in Lost has reached its length with the lock line high (R146). -/
def State.regainDue (s : State) (x : TunerId) : Bool :=
  (s.tuner x).condition == .lost && s.lockLine x && (match (s.tuner x).regain with
    | some n => decide (1 ≤ n)
    | none => false)

/-- REGAIN_COUNT_COMPLETE: the tuner enters Locked (R146). -/
def execRegainCountComplete (x : TunerId) (s : State) : Host.Outcome State Fault Refusal :=
  event (s.regainDue x) (fun s => s.changeTuner x ((s.tuner x).still .locked) .regain) s

/-! ## Lines (R141, R144 to R146, R149) -/

/-- An input line takes a new level: while RESETN is low only the level is taken (log 10); a line already at that level does not
change (log 1). -/
def lineRow (fresh : Bool) (level act : State → State) (s : State) : Host.Outcome State Fault Refusal :=
  if fresh then
    if s.lines.resetn then .next (act (level s)).settle else .next (level s)
  else .next s

/-- A lock line has risen (R144 to R146). -/
def State.lockRises (s : State) (x : TunerId) : State :=
  let t := s.tuner x
  match t.condition with
  | .tuning =>
    match t.grace with
    | some _ => s
    | none => s.changeTuner x (t.still .locked) .grace
  | .locked => s.setTuner x { t with loss := none }
  | .lost => s.setTuner x { t with regain := some 0 }
  | _ => s

/-- LOCK_RISE (R144, R145, R146). -/
def execLockRise (x : TunerId) (s : State) : Host.Outcome State Fault Refusal :=
  lineRow (!s.lockLine x) (fun s => s.setLockLine x true) (fun s => s.lockRises x) s

/-- A lock line has fallen (R145, R146). -/
def State.lockFalls (s : State) (x : TunerId) : State :=
  let t := s.tuner x
  match t.condition with
  | .locked => s.setTuner x { t with loss := some .zero }
  | .lost => s.setTuner x { t with regain := none }
  | _ => s

/-- LOCK_FALL (R145, R146). -/
def execLockFall (x : TunerId) (s : State) : Host.Outcome State Fault Refusal :=
  lineRow (s.lockLine x) (fun s => s.setLockLine x false) (fun s => s.lockFalls x) s

/-- FAULT_LINE_RISE (R149). -/
def execFaultLineRise (x : TunerId) (s : State) : Host.Outcome State Fault Refusal :=
  lineRow (!s.faultLine x) (fun s => s.setFaultLine x true) (fun s => s.faultRises x) s

/-- FAULT_LINE_FALL: the level alone; no latch and no condition changes (R149). -/
def execFaultLineFall (x : TunerId) (s : State) : Host.Outcome State Fault Refusal :=
  lineRow (s.faultLine x) (fun s => s.setFaultLine x false) id s

end Sys2Proof.Machine
end

