-- ==== Sys2Proof/Machine/ReportRows.lean ====
section
/-! DEFINITION. RUN_STATUS (R128) and the recording reports BEGUN, ENDED, REFUSED, FAULT_REPORT, MOVED (R122 to R127). -/

namespace Sys2Proof.Machine

/-! ## Running status -/

/-- A candidate after a report: another status starts again from 0, the same leaves it (R128, R129). -/
def updateCandidate (c : Option Candidate) (status : RunStatus) : Candidate :=
  match c with
  | some k => if k.status = status then k else ⟨status, .zero, false⟩
  | none => ⟨status, .zero, false⟩

/-- The booking takes running-status reports for an event (R128). -/
def Booking.takesStatus (b : Booking) (ref : EventRef) : Bool :=
  b.unfinished && b.accurate && !b.flags.timedFallback && b.main == some ref

/-- A report taken by a booking: its report record, and in Armed, Due and Recording its candidate (R128). -/
def Booking.takeStatus (b : Booking) (status : RunStatus) (now : Nat) : Booking :=
  let follows := b.state == .armed || b.state == .due || b.state == .recording
  let candidate := if follows then some (updateCandidate b.items.candidate status) else b.items.candidate
  { b with items := { b.items with report := some ⟨status, now⟩, candidate := candidate } }

/-- RunStatus (R128). -/
def State.runStatus (s : State) (ref : EventRef) (status : RunStatus) : State × ReplyPlan :=
  if (findService s.catalogue.services ref.service).isNone then (s, .refuse .badField)
  else
    let records := s.book.records.map fun b => if b.takesStatus ref then b.takeStatus status s.now else b
    (s.setBook { s.book with records := records }, .done .ok .code)

/-- RUN_STATUS (R128). -/
def execRunStatus (tag : Byte) (body : List Byte) (s : State) : Host.Outcome State Fault Refusal :=
  request (.runStatus tag body) ⟨tag, Config.kindRunStatus, body⟩
    (parsed (parseRunStatus body) fun x s => s.runStatus x.1 x.2) s

/-! ## Reports -/

/-- The reply to a report that was judged: the result, the booking's state after it and its outcome when Finished (R122). -/
def State.reportReply (s : State) (r : Result) (h : Nat) : State × ReplyPlan :=
  match s.booking? h with
  | some b => (s, .done r (.report b.state b.verdict))
  | none => (s, .refuse .notFound)

/-- A report that changes nothing (R122). -/
def State.reportRefused (s : State) (r : Result) (b : Booking) : State × ReplyPlan :=
  (s, .done r (.report b.state b.verdict))

/-- The checks of every report: handle 0 is BadField, a handle without record NotFound (R122). -/
def reportOwner (body : List Byte) (owner : Booking → Owner) : Owner :=
  parsed (parseReport body) fun h s =>
    if h = 0 then (s, .refuse .badField)
    else
      match s.booking? h with
      | none => (s, .refuse .notFound)
      | some b => owner b s

/-- Finished Failed (NoStart) or Cancelled: the recording the host speaks of was given up (R123, R125). -/
def Booking.givenUp (b : Booking) : Bool :=
  match b.verdict with
  | some v => v.kind == .cancelled || (v.kind == .failed && v.reason == .noStart)
  | none => false

/-- Finished with an actual start (R124, R126). -/
def Booking.wasBegun (b : Booking) : Bool := b.state == .finished && b.actualStart.isSome

/-- The tuner of a booking's placement is Lost or Faulted (R134). -/
def State.onGappingTuner (s : State) (b : Booking) : Bool :=
  match b.placement.tuner? with
  | some x => (s.tuner x).condition.gapping
  | none => false

/-- The candidate holds NotRunning with its hold complete, and Running had taken effect (R123). -/
def Booking.notRunningHeld (b : Booking) : Bool :=
  match b.items.candidate with
  | some c => c.status == .notRunning && c.taken && b.items.runningAt.isSome
  | none => false

/-- The record of a Due booking that enters Recording: actual start unless set before, the first-attempt mark, a gap from Restart
ended (R123). -/
def Booking.begin (b : Booking) (first : Bool) (now : Nat) : Booking :=
  { b with
    state := .recording
    actualStart := some (b.actualStart.getD now)
    items := { b.items with firstAttempt := b.items.firstAttempt || first, inGap := false, failover := 0 } }

/-- The Start answered was of attempt 1 and issued when Running took effect (R123). -/
def State.firstAttemptStart (s : State) (h : Nat) : Bool :=
  match s.orderOf h with
  | some o => o.kind == .start && o.attempt == 1 && o.onRunning
  | none => false

/-- Begun for a Due booking (R123). -/
def State.beginRecording (s : State) (b : Booking) : State :=
  let h := b.handle
  let first := s.firstAttemptStart h
  let now := s.now
  let s := (s.modBooking h fun b => b.begin first now).removeOrder h
  let s := if s.onGappingTuner b then s.beginGap h else s
  let s := s.noteState h
  if b.notRunningHeld then s.notRunningStops h
  else if b.placement.endsBy s.now && s.time.clockSet then s.endRuleUnlessOpen h
  else s

/-- The reply to a Begun that was taken: sent as soon as it has been applied (R122; log 14). -/
def State.begunReply (s : State) (h : Nat) : State × ReplyPlan :=
  match s.booking? h with
  | some b => (s, .prompt .ok (.report b.state b.verdict))
  | none => (s, .refuse .notFound)

/-- The record of a Stopping booking without actual start after its Begun: actual start is now, and a gap from Restart ends (R123,
R137). -/
def Booking.beginStopping (b : Booking) (now : Nat) : Booking :=
  { b with actualStart := some now, items := { b.items with inGap := false, failover := 0 } }

/-- Begun, by the booking's state (R123). -/
def State.begun (s : State) (b : Booking) : State × ReplyPlan :=
  if b.state = .due then (s.beginRecording b).begunReply b.handle
  else if b.state = .stopping ∧ b.actualStart = none then
    let now := s.now
    (s.modBooking b.handle fun b => b.beginStopping now).begunReply b.handle
  else if b.state = .finished ∧ b.givenUp = true then s.reportRefused .tooLate b
  else s.reportRefused .stateMismatch b

/-- BEGUN; also the RecordReport bodies that name no report kind, which R122 refuses (log 29). -/
def execBegun (tag : Byte) (body : List Byte) (s : State) : Host.Outcome State Fault Refusal :=
  request (.begun tag body) ⟨tag, Config.kindRecordReport, body⟩ (reportOwner body fun b s => s.begun b) s

/-- Actual end set to now (R124, R126). -/
def State.setActualStop (s : State) (h : Nat) : State :=
  let now := s.now
  s.modBooking h fun b => { b with actualStop := some now }

/-- Ended, by the booking's state (R124). -/
def State.ended (s : State) (b : Booking) : State × ReplyPlan :=
  let h := b.handle
  if b.state = .stopping then ((s.setActualStop h).finishByOutcome h .scheduled false).reportReply .ok h
  else if b.state = .recording then ((s.setActualStop h).finishByOutcome h .hostStop false).reportReply .ok h
  else if b.wasBegun then s.reportRefused .tooLate b
  else s.reportRefused .stateMismatch b

/-- ENDED (R124). -/
def execEnded (tag : Byte) (body : List Byte) (s : State) : Host.Outcome State Fault Refusal :=
  request (.ended tag body) ⟨tag, Config.kindRecordReport, body⟩ (reportOwner body fun b s => s.ended b) s

/-- Refused, by the booking's state (R125). -/
def State.refusedByHost (s : State) (b : Booking) : State × ReplyPlan :=
  let h := b.handle
  if b.state = .due ∧ s.holdsDelivered h .start = true then (s.finish h ⟨.failed, .refused⟩ false).reportReply .ok h
  else if b.state = .finished ∧ b.givenUp = true then s.reportRefused .tooLate b
  else s.reportRefused .stateMismatch b

/-- REFUSED (R125). -/
def execRefusedReport (tag : Byte) (body : List Byte) (s : State) : Host.Outcome State Fault Refusal :=
  request (.refusedReport tag body) ⟨tag, Config.kindRecordReport, body⟩ (reportOwner body fun b s => s.refusedByHost b) s

/-- A Fault report in Recording: Partial when seconds were recorded, Failed otherwise (R126). -/
def State.faultInRecording (s : State) (h : Nat) : State :=
  let s := s.setActualStop h
  match s.booking? h with
  | none => s
  | some b => s.finish h (if 0 < b.recordedSeconds then ⟨.partially, .fault⟩ else ⟨.failed, .fault⟩) false

/-- Fault, by the booking's state (R126). -/
def State.faultReported (s : State) (b : Booking) : State × ReplyPlan :=
  let h := b.handle
  if b.state = .recording then (s.faultInRecording h).reportReply .ok h
  else if b.state = .stopping then ((s.setActualStop h).finishByOutcome h .fault false).reportReply .ok h
  else if b.wasBegun then s.reportRefused .tooLate b
  else s.reportRefused .stateMismatch b

/-- FAULT_REPORT (R126). -/
def execFaultReport (tag : Byte) (body : List Byte) (s : State) : Host.Outcome State Fault Refusal :=
  request (.faultReport tag body) ⟨tag, Config.kindRecordReport, body⟩ (reportOwner body fun b s => s.faultReported b) s

/-! ## Moved (R127) -/

/-- The target window of a delivered Move is still free of conflict (R127). -/
def State.moveStillFree (s : State) (b : Booking) (t : MoveTarget) : Bool :=
  (s.failoverGround b.handle).free t.tuner (muxOf s.catalogue.services b.service) s.now t.stop

/-- The Move order and the target go, and the late-move mark is set (R127, R136). -/
def State.dropMove (s : State) (h : Nat) : State :=
  (s.modItems h fun i => { i with moveTarget := none, lateMove := true }).removeOrder h

/-- The gap of a Recording booking judged on the tuner of its placement: it ends where that is neither Lost nor Faulted, and begins
where it is and the booking was in none (R127, R134). -/
def State.judgeGap (s : State) (h : Nat) : State :=
  match s.booking? h with
  | none => s
  | some b =>
    if s.onGappingTuner b then (if b.items.inGap then s else s.beginGap h)
    else if b.items.inGap then s.endGap h else s

/-- The booking moves to the target: placement, Moved, the order answered, the arrival and the in-use rule, the gap judged on the new
tuner, the pass trigger (R127, R142, R147; log 17). -/
def State.moveBooking (s : State) (b : Booking) (t : MoveTarget) : State :=
  let h := b.handle
  let s := s.modBooking h fun b =>
    { b with
      placement := .placed t.tuner (b.placement.start?.getD 0) t.stop
      flags := { b.flags with moved := true }
      items := { b.items with moveTarget := none } }
  (((s.removeOrder h).bookingArrives h).judgeGap h).trigger

/-- Moved, by the booking's state and its Move order (R127). -/
def State.moved (s : State) (b : Booking) : State × ReplyPlan :=
  let h := b.handle
  if b.state = .recording ∧ s.holdsDelivered h .move = true then
    match b.items.moveTarget with
    | some t =>
      if s.moveStillFree b t then (s.moveBooking b t).reportReply .ok h
      else (s.dropMove h).reportReply .tooLate h
    | none => s.reportRefused .stateMismatch b
  else if b.items.lateMove then s.reportRefused .tooLate b
  else s.reportRefused .stateMismatch b

/-- MOVED (R127). -/
def execMoved (tag : Byte) (body : List Byte) (s : State) : Host.Outcome State Fault Refusal :=
  request (.moved tag body) ⟨tag, Config.kindRecordReport, body⟩ (reportOwner body fun b s => s.moved b) s

end Sys2Proof.Machine
end

