-- ==== Sys2Proof/Machine/WakeRows.lean ====
section
/-! DEFINITION. The Wake Unit's rows: HOST_STATE_READY (R161), HOST_STATE_STANDBY (R162 to R164), WAKE_INSTANT_REACHED (R166),
ATTEMPT_COUNT_COMPLETE, PAUSE_COUNT_COMPLETE (R167). -/

namespace Sys2Proof.Machine

/-! ## Ready (R161) -/

/-- The Wake Unit after Ready (R161); the WakeFailed count stays. -/
def WakeUnit.ready (w : WakeUnit) : WakeUnit :=
  { w with host := .up, attempt := none, pause := none, due := none, wakeAt := none, abandon := [] }

/-- HostState(Ready): in Up nothing changes; otherwise the host is Up and the in-use rule follows (R161, R142). -/
def State.hostReady (s : State) : State × ReplyPlan :=
  let reply := ReplyPlan.done .ok (.ready s.wake.host s.wake.failed)
  if s.wake.host = .up then (s, reply) else ((s.setWake s.wake.ready).evaluateTuners, reply)

/-- HOST_STATE_READY; also the HostState bodies that name no form, which R204 refuses (log 29). -/
def execHostStateReady (tag : Byte) (body : List Byte) (s : State) : Host.Outcome State Fault Refusal :=
  request (.hostStateReady tag body) ⟨tag, Config.kindHostState, body⟩
    (parsed (parseHostState body) fun form s =>
      match form with
      | none => s.hostReady
      | some _ => (s, .refuse .badField)) s

/-! ## Standby (R162 to R164) -/

/-- With the clock set: a placed Pending booking whose effective start is at or before now + WakeLead, and every Armed booking (R162). An
Armed one meets the test wherever its effective start lies, and where a pass left it Unplaced too (log 54). -/
def State.startsSoon (s : State) (b : Booking) : Bool :=
  s.time.clockSet && (b.state == .armed || (b.state == .pending && (match b.placement.start? with
    | some a => decide (a ≤ s.now + s.settings.wakeLead)
    | none => false)))

/-- The blockers of a standby, in ascending handle (R162). -/
def State.blockers (s : State) : List Booking := s.book.records.filter fun b => b.pinned || s.startsSoon b

/-- The lesser of a time and a time not always there. -/
def earlierOf (t : Nat) : Option Nat → Option Nat
  | none => some t
  | some u => some (min t u)

/-- The earliest effective start among the blockers still planned (R162). -/
def earliestStart (blockers : List Booking) : Option Nat :=
  (blockers.filter Booking.planned).foldr
    (fun b earliest => match b.placement.start? with
      | some a => earlierOf a earliest
      | none => earliest) none

/-- The handle of the lowest-handled pinned blocker, 0 when there is none (R162). -/
def lowestPinned (blockers : List Booking) : Nat :=
  match blockers.find? Booking.pinned with
  | some b => b.handle
  | none => 0

/-- The Busy refusal (R162, R204). -/
def busyReply (blockers : List Booking) : ReplyPlan :=
  .done .busy (.busy blockers.length (lowestPinned blockers) (earliestStart blockers))

/-- A forced standby takes this booking into Stopping (R163). -/
def Booking.forcedStop (b : Booking) : Bool := b.state == .due || b.state == .recording

/-- The forced standby's effect on the bookings, in ascending handle (R163). -/
def State.forceStops (s : State) (handles : List Nat) : State :=
  handles.foldl (fun s h => s.stop h .standby true) s

/-- The Wake Unit in Down with no attempt (R162, R164); leaving Up sets the WakeFailed count to 0 (R160). -/
def WakeUnit.sleep (w : WakeUnit) : WakeUnit :=
  { w with
    host := .down, attempt := none, pause := none, due := none, wakeAt := none, abandon := []
    failed := if w.host = .up then 0 else w.failed }

/-- The host state becomes Down; from Up the Tuner Monitor takes the leaving of Up: both tuners go out of use and the live claim
is released (R164, R148, R156); the due instant is evaluated (R165). -/
def State.hostSleeps (s : State) : State :=
  let leaving := s.wake.host == .up
  let s := s.setWake s.wake.sleep
  (if leaving then s.evaluateTuners.releaseLive else s).evaluateWake

/-- HostState(Standby): its reply waits for a pass only where it released a live claim (R162 to R164; log 14). -/
def State.hostStandby (s : State) (force : Bool) : State × ReplyPlan :=
  let blockers := s.blockers
  if !blockers.isEmpty && !force then (s, busyReply blockers)
  else
    let stops := (s.book.records.filter Booking.forcedStop).map (·.handle)
    let t := (s.forceStops stops).hostSleeps
    (t, if s.wake.host = .up ∧ s.monitor.live.isSome = true then .standby s.wake.host stops.length
      else .prompt .ok (.standby s.wake.host t.wake.host stops.length t.wake.due t.wake.wakeAt))

/-- HOST_STATE_STANDBY (R162 to R164). -/
def execHostStateStandby (tag : Byte) (body : List Byte) (s : State) : Host.Outcome State Fault Refusal :=
  request (.hostStateStandby tag body) ⟨tag, Config.kindHostState, body⟩
    (parsed (parseHostState body) fun form s =>
      match form with
      | some force => s.hostStandby force
      | none => (s, .refuse .badField)) s

/-! ## Wake attempts (R166, R167) -/

/-- Now has reached the wake instant, in Down or Abandoned, with WakeMode Auto and the clock set (R166, R168). -/
def State.wakeDue (s : State) : Bool :=
  (s.wake.host == .down || s.wake.host == .abandoned) && !s.settings.wakeOff && s.time.clockSet && (match s.wake.wakeAt with
    | some t => decide (t ≤ s.now)
    | none => false)

/-- WAKE_INSTANT_REACHED (R166, R168). -/
def execWakeInstantReached (s : State) : Host.Outcome State Fault Refusal :=
  event s.wakeDue (fun s => s.setWake s.wake.startAttempt) s

/-- ATTEMPT_COUNT_COMPLETE (R167, R168). -/
def execAttemptCountComplete (s : State) : Host.Outcome State Fault Refusal :=
  event (s.attemptRuns (·.complete)) State.attemptCompletes s

/-- The pause count has reached its length (R167). -/
def State.pauseDue (s : State) : Bool :=
  s.wake.host == .pausing1 && (match s.wake.pause with
    | some n => decide (Config.pauseSeconds ≤ n)
    | none => false)

/-- The second attempt begins (R167). -/
def WakeUnit.secondAttempt (w : WakeUnit) : WakeUnit := { w with host := .waking2, attempt := some .zero, pause := none }

/-- PAUSE_COUNT_COMPLETE (R167). -/
def execPauseCountComplete (s : State) : Host.Outcome State Fault Refusal :=
  event s.pauseDue (fun s => s.setWake s.wake.secondAttempt) s

end Sys2Proof.Machine
end

