-- ==== Sys2Proof/Machine/NoticeRows.lean ====
section
/-! DEFINITION. STORAGE_REPORT (R175), ACK_ALARM (R181), FETCH_NOTICES (R190 to R192). -/

namespace Sys2Proof.Machine

/-! ## Storage (R175, R181) -/

/-- Whether the condition of R178 holds after an evaluation; `none` when it could not be judged (R175). -/
def State.spaceCondition (s : State) : Option Bool :=
  if s.settings.spaceAlarm ∧ s.storage.free.isSome then
    some (spaceShort s.storage.free s.storage.need s.settings.spaceFloor)
  else none

/-- StorageReport: free replaced, or kept under Keep; the evaluation; the reply from the values after it (R175). -/
def State.storageReport (s : State) (free : Option Nat) : State × ReplyPlan :=
  let s := (match free with
    | some f => s.setStorage { s.storage with free := some f }
    | none => s).evaluateStorage
  (s, .done .ok
    (.storage s.storage.free s.storage.need s.storage.counted s.settings.spaceFloor s.storage.low s.spaceCondition))

/-- STORAGE_REPORT (R175). -/
def execStorageReport (tag : Byte) (body : List Byte) (s : State) : Host.Outcome State Fault Refusal :=
  request (.storageReport tag body) ⟨tag, Config.kindStorageReport, body⟩
    (parsed (parseStorageReport body) fun free s => s.storageReport free) s

/-- AckAlarm: while SpaceAlarm is on, SpaceLow cleared and an evaluation at once (R181). -/
def State.ackAlarm (s : State) : State × ReplyPlan :=
  let s := if s.settings.spaceAlarm then (s.setStorage { s.storage with low := false }).evaluateStorage else s
  (s, .done .ok (.acknowledged s.storage.low s.storage.need s.storage.counted s.storage.free))

/-- ACK_ALARM (R181). -/
def execAckAlarm (tag : Byte) (body : List Byte) (s : State) : Host.Outcome State Fault Refusal :=
  request (.ackAlarm tag body) ⟨tag, Config.kindAckAlarm, body⟩ (parsed (parseEmpty body) fun _ s => s.ackAlarm) s

/-! ## Fetching (R190 to R192) -/

/-- The bytes a FetchNotices body has for records (R190). -/
def fetchRoom : Nat := 236

/-- The undelivered orders from the front that fit in the body (R191 step 1). -/
def State.fetchedOrders (s : State) : List Order := (s.orders.orders.filter fun o => !o.delivered).take (fetchRoom / 12)

/-- The number of notices that fit behind k orders (R190). -/
def noticeRoom (k : Nat) : Nat := (fetchRoom - 12 * k) / 20

/-- An order delivered: its timeout begins with OrderTimeout as it stands (R115, R192). -/
def Order.deliver (o : Order) (limit : Nat) : Order := { o with delivered := true, elapsed := 0, limit := limit }

/-- The first n undelivered orders of a list delivered. -/
def deliverFirst (limit : Nat) : Nat → List Order → List Order
  | 0, orders => orders
  | _, [] => []
  | n + 1, o :: rest =>
    if o.delivered then o :: deliverFirst limit (n + 1) rest else o.deliver limit :: deliverFirst limit n rest

/-- FetchNotices: orders, then notices, then the flags (R191); the Wake Unit evaluates after a delivery (R192). -/
def State.fetch (s : State) : State × ReplyPlan :=
  let orders := s.fetchedOrders
  let room := noticeRoom orders.length
  let notices := s.notices.queue.take room
  let lost := s.notices.lost
  let s := s.setOrderList (deliverFirst s.settings.orderTimeout orders.length s.orders.orders)
  let s := s.setNotices ⟨s.notices.queue.drop room, false⟩
  let more := s.orders.orders.any (fun o => !o.delivered) || !s.notices.queue.isEmpty
  (if orders.isEmpty then s else s.evaluateWake, .done .ok (.fetched orders notices lost more))

/-- FETCH_NOTICES (R190 to R192). -/
def execFetchNotices (tag : Byte) (body : List Byte) (s : State) : Host.Outcome State Fault Refusal :=
  request (.fetchNotices tag body) ⟨tag, Config.kindFetchNotices, body⟩
    (parsed (parseEmpty body) fun _ s => s.fetch) s

end Sys2Proof.Machine
end

