-- ==== Sys2Proof/Machine/Replies.lean ====
section
/-! DEFINITION. The bytes of the replies whose layout the spec gives (R190, R204, R206 to R210, the record tables of
11_the_message_link.md). The other replies keep their values without a layout (log 7). -/

namespace Sys2Proof.Machine

/-- A number as one byte. -/
def be8 (n : Nat) : Byte := BitVec.ofNat 8 n

/-- The weight of a bit that is set. -/
def bit (place : Nat) (b : Bool) : Nat := if b then 2 ^ place else 0

/-- The result codes (R204). -/
def Result.code : Result → Nat
  | .ok => 0x00 | .clamped => 0x01 | .badLength => 0x02 | .unknownKind => 0x03 | .badField => 0x04
  | .noSpace => 0x05 | .notFound => 0x06 | .duplicate => 0x07 | .stateMismatch => 0x08 | .inUse => 0x09
  | .busy => 0x0A | .tooLate => 0x0B | .past => 0x0C | .truncated => 0x0D

/-- Tuner codes: 0 A, 1 B. -/
def tunerCode : TunerId → Nat
  | .a => 0
  | .b => 1

/-- Lifecycle states (booking record, offset 31). -/
def Lifecycle.code : Lifecycle → Nat
  | .pending => 0 | .armed => 1 | .due => 2 | .recording => 3 | .stopping => 4 | .finished => 5

/-- Stop causes (offset 32). -/
def StopCause.code : StopCause → Nat
  | .schedule => 0 | .slack => 1 | .overrun => 2 | .cancel => 3 | .standby => 4

/-- Placements (offset 33). -/
def Placement.code : Placement → Nat
  | .placed x _ _ => tunerCode x
  | .unplaced _ => 2
  | .none => 3

/-- Cause sets (offset 42). -/
def Causes.code (c : Causes) : Nat :=
  bit 0 c.slots + bit 1 c.multiplex + bit 2 c.quadrant + bit 3 c.fault + bit 4 c.live

/-- Outcomes (offset 43). -/
def OutcomeKind.code : OutcomeKind → Nat
  | .completed => 0 | .partially => 1 | .missed => 2 | .failed => 3 | .cancelled => 4

/-- Reasons (offset 44). -/
def Reason.code : Reason → Nat
  | .scheduled => 0 | .hostStop => 1 | .unconfirmed => 2 | .fault => 3 | .clash => 4 | .neverRan => 5 | .hostAbsent => 6
  | .clockStep => 7 | .guideMoved => 8 | .noStart => 9 | .refused => 10 | .request => 11 | .guideDrop => 12 | .unlinked => 13

/-- Flags (offset 57). -/
def BookingFlags.code (f : BookingFlags) : Nat :=
  bit 0 f.orphan + bit 1 f.paddingTrimmed + bit 2 f.timedFallback + bit 3 f.lateStart + bit 4 f.moved + bit 5 f.resumed +
    bit 6 f.truncated + bit 7 f.stopUnconfirmed + bit 8 f.gaps

/-- Origins (offset 2). -/
def Origin.code : Origin → Nat
  | .event => 0 | .time => 1 | .series _ => 2 | .slot _ => 3

/-- The link index of an origin, 0xFF for Event and Time (offset 3). -/
def Origin.linkCode : Origin → Nat
  | .series i => i | .slot i => i | _ => 0xFF

/-- The presence byte (offset 6). -/
def Booking.presence (b : Booking) : Nat :=
  bit 0 b.main.isSome + bit 1 b.tag.isSome + bit 2 b.key.isSome + bit 3 b.stopCause.isSome + bit 4 b.verdict.isSome +
    bit 5 b.actualStart.isSome + bit 6 b.actualStop.isSome

/-- An absent 4-byte field is sent as zero. -/
def be32? (n : Option Nat) : List Byte := be32 (n.getD 0)

/-- Effective start and end, zero when not placed (offset 34). -/
def Placement.spanBytes (p : Placement) : List Byte := be32? p.start? ++ be32? p.stop?

/-- One alternative slot (offset 64). -/
def Alternative.bytes (a : Alternative) : List Byte := be16 a.service ++ be16 a.id ++ be32 a.start ++ be32 a.stop

/-- The booking record of 112 bytes. -/
def Booking.bytes (b : Booking) : List Byte :=
  be16 b.handle ++ [be8 b.origin.code, be8 b.origin.linkCode] ++ be16 b.service ++ [be8 b.presence] ++
    be16 ((b.main.map (·.id)).getD 0) ++ be32? b.tag ++ be32? b.key ++ be32 b.nominalStart ++ be32 b.nominalStop ++
    be16 b.prePad ++ be16 b.postPad ++
    [be8 b.priority, be8 b.accurate.toNat, be8 b.state.code, be8 ((b.stopCause.map StopCause.code).getD 0),
     be8 b.placement.code] ++
    b.placement.spanBytes ++
    [be8 b.placement.causes.code, be8 ((b.verdict.map (·.kind.code)).getD 0), be8 ((b.verdict.map (·.reason.code)).getD 0)] ++
    be32? b.actualStart ++ be32? b.actualStop ++ be16 b.gapSeconds ++ be16 b.gapCount ++ be16 b.flags.code ++
    be32? b.finishedAt ++ [be8 b.alternatives.length] ++
    ((b.alternatives.flatMap Alternative.bytes) ++ List.replicate 48 0#8).take 48

/-- An order record of 12 bytes. -/
def Order.bytes (o : Order) : List Byte :=
  [be8 (match o.kind with
    | .start => 0
    | .stop => 1
    | .move => 2), be8 o.attempt] ++ be16 o.handle ++
    [be8 (match o.tuner with
    | some x => tunerCode x
    | none => 0xFF), be8 o.mux] ++ be16 o.service ++ be32 o.issued

/-- Tuner conditions (TunerChange). -/
def Condition.code : Condition → Nat
  | .unused => 0 | .tuning => 1 | .locked => 2 | .lost => 3 | .faulted => 4

/-- Causes of a tuner change. -/
def ChangeCause.code : ChangeCause → Nat
  | .use => 0 | .release => 1 | .grace => 2 | .loss => 3 | .regain => 4 | .retune => 5 | .fault => 6 | .clear => 7

/-- The kind code of a notice. -/
def NoticeBody.code : NoticeBody → Nat
  | .bookingState _ _ => 1 | .clashFound _ _ => 2 | .clashCleared _ _ _ _ => 3 | .seriesBooked _ _ => 4 | .seriesFull _ => 5
  | .tunerChange _ _ _ _ _ => 6 | .liveYield _ _ _ => 7 | .wakeFailed _ _ _ => 8 | .clockStepped _ _ => 9
  | .zoneChanged _ _ _ => 10 | .spaceLow _ _ _ _ => 11

/-- The subject of a notice, 0 for kinds without one. -/
def NoticeBody.subject : NoticeBody → Nat
  | .bookingState h _ => h | .clashFound h _ => h | .clashCleared h _ _ _ => h | .seriesBooked l _ => l | .seriesFull l => l
  | .tunerChange x _ _ _ _ => tunerCode x | .liveYield x _ _ => tunerCode x | _ => 0

/-- The cause set a BookingState payload carries: that of an Unplaced booking, or of the last placement of a Missed (Clash). -/
def BookingReport.causes (r : BookingReport) : Causes :=
  match r.placement with
  | .unplaced c => c
  | _ => r.lastCauses

/-- The payload of a notice, before the unused bytes. -/
def NoticeBody.payload : NoticeBody → List Byte
  | .bookingState _ r =>
    [be8 r.state.code, be8 r.placement.code] ++ r.placement.spanBytes ++
      [be8 r.causes.code, be8 ((r.verdict.map (·.kind.code)).getD 0xFF), be8 ((r.verdict.map (·.reason.code)).getD 0)]
  | .clashFound _ c => [be8 c.code]
  | .clashCleared _ x a e => [be8 (tunerCode x)] ++ be32 a ++ be32 e
  | .seriesBooked _ h => be16 h
  | .seriesFull _ => []
  | .tunerChange _ c latch mux cause =>
    [be8 c.code, be8 latch.toNat, be8 (mux.getD 0xFF), be8 cause.code]
  | .liveYield _ mux y => [be8 mux, be8 y.isSome.toNat] ++ be32? y
  | .wakeFailed k due source => [be8 k] ++ be32 due ++ be16 source
  | .clockStepped old new => be32 old ++ be32 new
  | .zoneChanged old new cause =>
    be16i old ++ be16i new ++ [be8 (match cause with
      | .report => 0
      | .scheduled => 1)]
  | .spaceLow free need floor counted => be32 free ++ be32 need ++ be16 floor ++ [be8 counted]

/-- A notice record of 20 bytes. -/
def Notice.bytes (n : Notice) : List Byte :=
  [be8 n.body.code] ++ be16 n.body.subject ++ be32 n.time ++ (n.body.payload ++ List.replicate 13 0#8).take 13

/-- The flag byte of a FetchNotices reply. -/
def fetchFlags (lost more : Bool) : Nat := bit 0 lost + bit 1 more

/-- The values of an Identify reply (R206). -/
def identityBytes : List Byte :=
  be16 0x0D71 ++ be16 0x2740 ++ [be8 0x41, be8 Config.maxBookings, be8 Config.maxLinks] ++ be16 Config.maxEvents ++
    be16 Config.maxServices ++ [be8 Config.maxMuxes, be8 Config.maxNotices, be8 Config.recordSlots, be8 Config.tuners]

/-- The values after the result code, where the spec lays them out. -/
def ReplyData.bytes : ReplyData → Option (List Byte)
  | .code => some []
  | .identify => some identityBytes
  | .echo body => some body
  | .setting item value => some (be8 item :: be32 value)
  | .counters c => some (be16 c.badCheck ++ be16 c.byteError ++ be16 c.timeout ++ be16 c.overrun ++ be16 c.queueFull)
  | .record b => some b.bytes
  | .duplicate existing => some (be16 existing)
  | .fetched orders notices lost more =>
    some ([be8 orders.length, be8 notices.length, be8 (fetchFlags lost more)] ++
      orders.flatMap Order.bytes ++ notices.flatMap Notice.bytes)
  | _ => none

/-- A reply's body: the result code first (R204). -/
def Reply.body (r : Reply) : Option (List Byte) := r.data.bytes.map fun b => be8 r.result.code :: b

/-- A reply as a frame (R204, R203). -/
def Reply.frame (r : Reply) : Option Frame := r.body.map fun b => ⟨r.tag, r.kind, b⟩

end Sys2Proof.Machine
end

