-- ==== Sys2Proof/Machine/LinkEvents.lean ====
section
/-! DEFINITION. The link's events: FRAME_ASSEMBLED (R199), GAP_MARK, BYTE_RECEIVED (R198), REPLY_SENT (R202), the
serial lines between them and CRYSTAL_TICK (R2, R197, R198, R205), and the power-on reset RESETN_LOW, RESETN_RELEASE (R196). -/

namespace Sys2Proof.Machine

/-! ## The assembler (R198, R199) -/

/-- The frame that the front of the FIFO completes: the bytes after the start byte, and the FIFO behind it. -/
def State.completing (s : State) : Option (List Byte × List FifoItem) :=
  match s.link.assembler, s.link.fifo with
  | .receiving bytes, .byte d false :: rest =>
    if !s.link.phase.isApplying && completes (.receiving bytes) (.byte d false) then some (bytes ++ [d], rest) else none
  | _, _ => none

/-- FRAME_ASSEMBLED: the last check byte is taken, the assembler returns to Hunting, and the frame is judged (R199, R200,
R202). -/
def execFrameAssembled (s : State) : Host.Outcome State Fault Refusal :=
  event s.completing.isSome (fun s =>
    match s.completing with
    | some (bytes, rest) => (s.popFifo rest .hunting).completeFrame bytes
    | none => s) s

/-! ## Marks and bytes (R197, R198) -/

/-- The gap timer has reached 328 ticks, RTS asserted (R198). -/
def State.gapDue (s : State) : Bool := s.lines.rts && s.link.gapTimer == some Config.gapTicks

/-- GAP_MARK: the mark after the last entry; the timer stops (R198). -/
def execGapMark (s : State) : Host.Outcome State Fault Refusal :=
  event s.gapDue (fun s => s.setLink { s.link with fifo := s.link.fifo ++ [.gap], gapTimer := none }) s

/-- The data bits of a byte in the order they are sent, least significant first (R197). -/
def dataBits (data : Byte) : List Bool := [0, 1, 2, 3, 4, 5, 6, 7].map data.getLsbD

/-- With parity even, the ones among the data bits and the parity bit are even in number (R197). -/
def evenOnes (data : Byte) (parityBit : Bool) : Bool := ((dataBits data).count true + parityBit.toNat) % 2 == 0

/-- The parity bit sent with a byte under parity even: the one that makes the ones even in number (R197). -/
def parityOf (data : Byte) : Bool := !evenOnes data false

/-- A byte as it is sent, on RXD and on TXD: start bit, data bits, the parity bit under parity even, stop bit (R197); a start bit is low,
a stop bit high (log 52). -/
def LineSettings.bits (line : LineSettings) (data : Byte) : List Bool :=
  false :: (dataBits data ++ (if line.parityEven then [parityOf data] else []) ++ [true])

/-- A byte's error mark: a stop bit sampled low, or a parity error under LinkParity even (R198). -/
def byteBad (line : LineSettings) (data : Byte) (parityBit stopBit : Bool) : Bool :=
  !stopBit || (line.parityEven && !evenOnes data parityBit)

/-- The FIFO after a byte: an entry at the end, or an overrun mark when 64 entries stand; bytes lost in a row leave one mark
(R198). -/
def receive (fifo : List FifoItem) (data : Byte) (bad : Bool) : List FifoItem :=
  if entryCount fifo < Config.fifoSize then fifo ++ [.byte data bad]
  else if fifo.getLast? = some .overrun then fifo
  else fifo ++ [.overrun]

/-- The settings a byte is completed under: those at its start bit. Of a start bit that no CRYSTAL_TICK told, `underOld` says that it came
before the last change (R197; log 21). -/
def LinkInterface.byteLine (l : LinkInterface) (underOld : Bool) : LineSettings :=
  l.rxLine.getD (if underOld then l.lineBefore else l.line)

/-- A byte received, under the settings at its start bit (R197); the gap timer starts again (R198). -/
def State.receiveByte (s : State) (data : Byte) (parityBit stopBit underOld : Bool) : State :=
  (s.setLink { s.link with
    fifo := receive s.link.fifo data (byteBad (s.link.byteLine underOld) data parityBit stopBit)
    gapTimer := some 0
    rxLine := none }).driveRts

/-- BYTE_RECEIVED (R197, R198). -/
def execByteReceived (data : Byte) (parityBit stopBit underOld : Bool) (s : State) : Host.Outcome State Fault Refusal :=
  event true (fun s => s.receiveByte data parityBit stopBit underOld) s

/-! ## A reply on TXD (R197, R202, R205) -/

/-- The service state is Sending. -/
def ServicePhase.isSending : ServicePhase → Bool
  | .sending _ => true
  | _ => false

/-- How many bytes a reply is on the line, where the spec lays it out (R204; log 7). -/
def Reply.size (r : Reply) : Option Nat := r.frame.map fun f => (Frame.bytes f).length

/-- The bits of a reply on TXD, where the spec lays it out (R197, R204). -/
def Reply.bits (line : LineSettings) (r : Reply) : Option (List Bool) := r.frame.map fun f => (Frame.bytes f).flatMap line.bits

/-- The bits of the reply being sent on TXD: under the settings in force to the end of its last stop bit (R197, R202). -/
def State.txd (s : State) : Option (List Bool) :=
  match s.link.phase with
  | .sending r => r.bits s.link.line
  | _ => none

/-- A reply can end with its n-th byte: its last where the spec lays it out; of any other, one of the 7th to the 246th, as its body is 1
to 240 bytes (R204; log 28). -/
def Reply.mayEndAt (r : Reply) (n : Nat) : Bool :=
  match r.size with
  | some k => n == k
  | none => decide (7 ≤ n ∧ n ≤ 246)

/-- A reply can have a byte after its n-th (R204; log 28). -/
def Reply.mayGoOnAfter (r : Reply) (n : Nat) : Bool :=
  match r.size with
  | some k => decide (n < k)
  | none => decide (n < 246)

/-- The byte that is next to be sent whole can be the reply's last. -/
def LinkInterface.onLastByte (l : LinkInterface) : Bool :=
  match l.phase with
  | .sending r => r.mayEndAt (l.txSent + 1)
  | _ => false

/-- The byte that is next to be sent whole can be one before the reply's last. -/
def LinkInterface.beforeLastByte (l : LinkInterface) : Bool :=
  match l.phase with
  | .sending r => r.mayGoOnAfter (l.txSent + 1)
  | _ => false

/-- The last byte of the reply can have been sent: a byte is on TXD and is the last, or CTS lets the bytes after it out (R205; log 28). -/
def State.replyDue (s : State) : Bool :=
  s.link.phase.isSending && s.link.txBegun && (s.lines.cts || s.link.onLastByte)

/-- The link after the last byte of a reply: a pending line setting takes effect, the served frame leaves, the next is taken
(R197, R202). -/
def LinkInterface.replySent (l : LinkInterface) : LinkInterface :=
  let l := { l with txBegun := false, txSent := 0 }
  let requests := l.requests.tail
  let phase : ServicePhase := if requests.isEmpty then .idle else .applying
  match l.pendingLine with
  | some line => { l with requests := requests, phase := phase, lineBefore := l.line, line := line, pendingLine := none }
  | none => { l with requests := requests, phase := phase }

/-- REPLY_SENT (R202, R205). -/
def execReplySent (s : State) : Host.Outcome State Fault Refusal :=
  event s.replyDue (fun s => (s.setLink s.link.replySent).driveRts) s

/-! ## The serial lines between the commands (R197, R198, R205) -/

/-- A start bit is detected on RXD: the byte is to be completed under the settings now in force (R197), and the gap timer stops, but
for a mark that is already due (R198, R212). A byte on RXD is completed first. -/
def LinkInterface.startBit (l : LinkInterface) : LinkInterface :=
  match l.rxLine with
  | some _ => l
  | none => { l with rxLine := some l.line, gapTimer := l.gapTimer.filter fun n => n == Config.gapTicks }

/-- A byte of the reply, not its last, has been sent whole: the next begins while CTS is asserted, and waits otherwise (R205). -/
def LinkInterface.byteSent (l : LinkInterface) (cts : Bool) : LinkInterface :=
  if l.txBegun && l.beforeLastByte then { l with txSent := l.txSent + 1, txBegun := cts } else l

/-- CTS rises: a reply byte that waits begins (R205). -/
def LinkInterface.ctsRise (l : LinkInterface) : LinkInterface :=
  if l.phase.isSending then { l with txBegun := true } else l

/-- One event of the serial lines. CTS is an input level, taken whatever RESETN is; RXD is not sampled while RESETN is low, and nothing is
being sent then (R196). A byte begun on TXD is sent whole when CTS falls (R205). -/
def State.lineEvent (s : State) : LineEvent → State
  | .startBit => if s.lines.resetn then s.setLink s.link.startBit else s
  | .byteSent => s.setLink (s.link.byteSent s.lines.cts)
  | .ctsRise => (s.setLines { s.lines with cts := true }).setLink s.link.ctsRise
  | .ctsFall => s.setLines { s.lines with cts := false }

/-- What the serial lines do before the next crystal tick, in its order (log 28). -/
def State.takeLine (s : State) : State :=
  match s.lines.ahead with
  | [] => s
  | now :: later => now.foldl State.lineEvent (s.setLines { s.lines with ahead := later })

/-- CRYSTAL_TICK (R2, R198): first what the serial lines did, then the tick (log 28). -/
def execCrystalTick (s : State) : Host.Outcome State Fault Refusal := event true State.crystal s.takeLine

/-! ## Power-on reset (R196) -/

/-- The part while RESETN is low: link activity ends, every item of R196 takes its power-on value, the output lines are
deasserted, a wake attempt ends, a pass is abandoned (R196, R212, R84, R172; log 10). -/
def State.holdReset (s : State) : State :=
  let s := (s.setLink .reset).setWake .reset
  let s := s.setPlanner { s.planner with running := none, repass := false, triggered := false }
  s.setLines { s.lines with rts := false, attn := false, wake := false, rec_ := false, resetn := false }

/-- RESETN_LOW (R196). -/
def execResetnLow (s : State) : Host.Outcome State Fault Refusal :=
  if s.lines.resetn then .next s.holdReset else .next s

/-- The machine after a power-on reset, with the input lines and the waiting commands as they stand (R1, R20, R26, R41, R66, R84,
R114, R140, R160, R174, R184, R196). -/
def State.powerOn (s : State) : State :=
  { State.reset with
    lines := { Lines.reset with
      cts := s.lines.cts, lockA := s.lines.lockA, lockB := s.lines.lockB, faultA := s.lines.faultA, faultB := s.lines.faultB,
      ahead := s.lines.ahead }
    pending := s.pending }

/-- Fault lines high at the release are taken as rises, A first (R149). -/
def State.riseAtRelease (s : State) : State :=
  let s := if s.lines.faultA then s.faultRises .a else s
  if s.lines.faultB then s.faultRises .b else s

/-- RESETN_RELEASE (R196, R149). -/
def execResetnRelease (s : State) : Host.Outcome State Fault Refusal :=
  if s.lines.resetn then .next s else .next s.powerOn.riseAtRelease.settle

end Sys2Proof.Machine
end

