-- ==== Sys2Proof/Machine/BookingEvents.lean ====
section
/-! DEFINITION. The instants and counts of one booking: its effective start and end, its padded end, the AccurateSlack end, the
purge age, the order timeouts, a candidate's hold, the failover test. -/

namespace Sys2Proof.Machine

/-- A condition on the record with a handle; without record it does not hold. -/
def State.when (s : State) (h : Nat) (p : Booking → Bool) : Bool :=
  match s.booking? h with
  | some b => p b
  | none => false

/-! ## Starts and padded ends -/

/-- EFFECTIVE_START_REACHED (R116). -/
def execEffectiveStartReached (h : Nat) (s : State) : Host.Outcome State Fault Refusal :=
  event (s.when h s.canOpen) (fun s => s.openBooking h false) s

/-- The padded end of an Unplaced Pending booking is reached (R52). -/
def State.unplacedEnd (s : State) (b : Booking) : Bool :=
  s.time.clockSet && b.state == .pending && b.placement.isUnplaced && decide (b.paddedStop ≤ s.now)

/-- PADDED_END_UNPLACED (R52). -/
def execPaddedEndUnplaced (h : Nat) (s : State) : Host.Outcome State Fault Refusal :=
  event (s.when h s.unplacedEnd) (fun s => s.finish h ⟨.missed, .clash⟩ false) s

/-- The undelivered Start of a Due booking was issued at or after its padded end, so no padded end is left to reach (R119). -/
def State.issuedLate (s : State) (b : Booking) : Bool :=
  match s.orderOf b.handle with
  | some o => decide (b.paddedStop ≤ o.issued)
  | none => false

/-- The padded end of a Due booking with an undelivered Start is reached (R119). -/
def State.dueEnd (s : State) (b : Booking) : Bool :=
  s.time.clockSet && b.state == .due && s.holdsUndelivered b.handle .start && !s.issuedLate b && decide (b.paddedStop ≤ s.now)

/-- PADDED_END_DUE (R119). -/
def execPaddedEndDue (h : Nat) (s : State) : Host.Outcome State Fault Refusal :=
  event (s.when h s.dueEnd) (fun s => s.finish h ⟨.missed, .hostAbsent⟩ false) s

/-- OrderTimeout elapsed seconds have passed since an order's issue (R119). -/
def State.waitedLong (s : State) (h : Nat) : Bool :=
  match s.orderOf h with
  | some o => decide (s.settings.orderTimeout ≤ o.elapsed)
  | none => false

/-- A Start issued at or after the padded end has stayed undelivered for OrderTimeout seconds (R119). -/
def State.lateStartWaited (s : State) (b : Booking) : Bool :=
  b.state == .due && s.holdsUndelivered b.handle .start && s.issuedLate b && s.waitedLong b.handle

/-- UNDELIVERED_START_TIMEOUT (R119). -/
def execUndeliveredStartTimeout (h : Nat) (s : State) : Host.Outcome State Fault Refusal :=
  event (s.when h s.lateStartWaited) (fun s => s.finish h ⟨.missed, .hostAbsent⟩ false) s

/-! ## Ends -/

/-- The effective end of an unfinished booking is reached, and its reaching was not taken yet (R85, R131; log 20). -/
def State.endReached (s : State) (b : Booking) : Bool :=
  s.time.clockSet && b.unfinished && b.items.endTaken != b.placement.stop? && b.placement.endsBy s.now

/-- The effective end is reached: a pass trigger, and for a Recording booking the end rule (R85, R131). -/
def State.reachEnd (s : State) (h : Nat) : State :=
  match s.booking? h with
  | none => s
  | some b =>
    let s := (s.modItems h fun i => { i with endTaken := b.placement.stop? }).trigger
    if b.state = .recording then s.endRuleUnlessOpen h else s

/-- EFFECTIVE_END_REACHED (R85, R131). -/
def execEffectiveEndReached (h : Nat) (s : State) : Host.Outcome State Fault Refusal :=
  event (s.when h s.endReached) (fun s => s.reachEnd h) s

/-- ACCURATE_SLACK_END (R132). -/
def execAccurateSlackEnd (h : Nat) (s : State) : Host.Outcome State Fault Refusal :=
  event (s.when h s.slackReached) (fun s => s.slackRule h) s

/-- PURGE_AGE_REACHED (R63). -/
def execPurgeAgeReached (h : Nat) (s : State) : Host.Outcome State Fault Refusal :=
  event (s.when h s.aged) (fun s => s.removeRecords fun b => b.handle == h) s

/-! ## Order timeouts (R118, R120, R136) -/

/-- The expired Start order of a Due booking (R118). -/
def State.startExpired (s : State) (b : Booking) : Bool := b.state == .due && s.orderExpired b.handle .start

/-- A Start timed out: issued again as attempt 2, or the booking finishes Failed (NoStart) (R118). -/
def State.startTimesOut (s : State) (h : Nat) : State :=
  match s.booking? h, s.orderOf h with
  | some b, some o =>
    if o.attempt = 1 then s.issue .start h b.placement.tuner? 2 false else s.finish h ⟨.failed, .noStart⟩ false
  | _, _ => s

/-- START_TIMEOUT (R118). -/
def execStartTimeout (h : Nat) (s : State) : Host.Outcome State Fault Refusal :=
  event (s.when h s.startExpired) (fun s => s.startTimesOut h) s

/-- The expired Stop order of a Stopping booking (R120). -/
def State.stopExpired (s : State) (b : Booking) : Bool := b.state == .stopping && s.orderExpired b.handle .stop

/-- STOP_TIMEOUT (R120). -/
def execStopTimeout (h : Nat) (s : State) : Host.Outcome State Fault Refusal :=
  event (s.when h s.stopExpired) (fun s => s.finishByOutcome h .unconfirmed true) s

/-- The expired Move order of a Recording booking (R136). -/
def State.moveExpired (s : State) (b : Booking) : Bool := b.state == .recording && s.orderExpired b.handle .move

/-- MOVE_TIMEOUT (R136). -/
def execMoveTimeout (h : Nat) (s : State) : Host.Outcome State Fault Refusal :=
  event (s.when h s.moveExpired) (fun s => s.dropMove h) s

/-! ## Holds (R129) -/

/-- A candidate's hold is to complete: the booking is Armed, Due or Recording (R129). -/
def State.holdReady (s : State) (b : Booking) : Bool :=
  (b.state == .armed || b.state == .due || b.state == .recording) && b.holds (·.complete)

/-- HOLD_COMPLETES (R129, R130). -/
def execHoldCompletes (h : Nat) (s : State) : Host.Outcome State Fault Refusal :=
  event (s.when h s.holdReady) (fun s => s.completeHold h) s

/-! ## The failover test (R135) -/

/-- A Recording booking in a gap whose failover count stands at 0 (R135); one in a gap begun by Restart, not Recording, is not tested
(log 63). -/
def Booking.failoverDue (b : Booking) : Bool := b.state == .recording && b.items.inGap && b.items.failover == 0

/-- The booking whose test is next: the lowest handle among those due (R135; log 31). -/
def State.nextFailover (s : State) : Option Booking := s.book.records.find? Booking.failoverDue

/-- A Move order to the tuner a failover test gave; its target is recorded and the late-move mark cleared (R135). -/
def State.issueMove (s : State) (h : Nat) (t : MoveTarget) : State :=
  (s.modItems h fun i => { i with moveTarget := some t, lateMove := false }).issue .move h (some t.tuner) 1 false

/-- The failover test made; nothing is issued without a target whose end is after now (R135). -/
def State.failover (s : State) (b : Booking) : State :=
  match b.placement with
  | .placed x _ e =>
    match s.failoverTarget b x e with
    | some t => if s.now < t.stop then s.issueMove b.handle t else s
    | none => s
  | _ => s

/-- The failover count set to GapLimit again (R135). -/
def State.restartFailover (s : State) (h : Nat) : State :=
  let limit := s.settings.gapLimit
  s.modItems h fun i => { i with failover := limit }

/-- The test for one booking, skipped while it holds a Move (R135). -/
def State.testFailover (s : State) (h : Nat) : State :=
  match s.booking? h with
  | none => s
  | some b => (if s.holds h .move then s else s.failover b).restartFailover h

/-- FAILOVER_TEST (R135). -/
def execFailoverTest (h : Nat) (s : State) : Host.Outcome State Fault Refusal :=
  event (s.nextFailover.map (·.handle) == some h) (fun s => s.testFailover h) s

end Sys2Proof.Machine
end

