-- ==== Sys2Proof/Machine/Dispatch.lean ====
section
/-! DEFINITION. Which meaning each command has. -/

namespace Sys2Proof.Machine

/-- The meaning of a command on everything but the queue. -/
def exec (i : Instr) (s : State) : Host.Outcome State Fault Refusal :=
  match i with
  | .identify tag body => Sys2Proof.Machine.execIdentify tag body s
  | .restart tag body => Sys2Proof.Machine.execRestart tag body s
  | .setSetting tag body => Sys2Proof.Machine.execSetSetting tag body s
  | .setLinkRate tag body => Sys2Proof.Machine.execSetLinkRate tag body s
  | .setLinkParity tag body => Sys2Proof.Machine.execSetLinkParity tag body s
  | .setRxTrigger tag body => Sys2Proof.Machine.execSetRxTrigger tag body s
  | .setFeedMode tag body => Sys2Proof.Machine.execSetFeedMode tag body s
  | .setLiveRank tag body => Sys2Proof.Machine.execSetLiveRank tag body s
  | .setPurgeAge tag body => Sys2Proof.Machine.execSetPurgeAge tag body s
  | .setAccurateSlack tag body => Sys2Proof.Machine.execSetAccurateSlack tag body s
  | .setRunHold tag body => Sys2Proof.Machine.execSetRunHold tag body s
  | .setLossHold tag body => Sys2Proof.Machine.execSetLossHold tag body s
  | .setWakeMode tag body => Sys2Proof.Machine.execSetWakeMode tag body s
  | .setWakeLead tag body => Sys2Proof.Machine.execSetWakeLead tag body s
  | .setWakeTimeout tag body => Sys2Proof.Machine.execSetWakeTimeout tag body s
  | .setSpaceAlarm tag body => Sys2Proof.Machine.execSetSpaceAlarm tag body s
  | .setSpaceFloor tag body => Sys2Proof.Machine.execSetSpaceFloor tag body s
  | .setSpaceHorizon tag body => Sys2Proof.Machine.execSetSpaceHorizon tag body s
  | .setDefaultRate tag body => Sys2Proof.Machine.execSetDefaultRate tag body s
  | .setNoticeMask tag body => Sys2Proof.Machine.execSetNoticeMask tag body s
  | .getSetting tag body => Sys2Proof.Machine.execGetSetting tag body s
  | .linkStats tag body => Sys2Proof.Machine.execLinkStats tag body s
  | .echo tag body => Sys2Proof.Machine.execEcho tag body s
  | .timeReport tag body => Sys2Proof.Machine.execTimeReport tag body s
  | .zoneReport tag body => Sys2Proof.Machine.execZoneReport tag body s
  | .queryTime tag body => Sys2Proof.Machine.execQueryTime tag body s
  | .muxLoad tag body => Sys2Proof.Machine.execMuxLoad tag body s
  | .serviceLoad tag body => Sys2Proof.Machine.execServiceLoad tag body s
  | .muxDrop tag body => Sys2Proof.Machine.execMuxDrop tag body s
  | .serviceDrop tag body => Sys2Proof.Machine.execServiceDrop tag body s
  | .guideBatch tag body => Sys2Proof.Machine.execGuideBatch tag body s
  | .guideDrop tag body => Sys2Proof.Machine.execGuideDrop tag body s
  | .queryEvent tag body => Sys2Proof.Machine.execQueryEvent tag body s
  | .bookEvent tag body => Sys2Proof.Machine.execBookEvent tag body s
  | .bookTime tag body => Sys2Proof.Machine.execBookTime tag body s
  | .amend tag body => Sys2Proof.Machine.execAmend tag body s
  | .cancel tag body => Sys2Proof.Machine.execCancel tag body s
  | .purge tag body => Sys2Proof.Machine.execPurge tag body s
  | .queryBooking tag body => Sys2Proof.Machine.execQueryBooking tag body s
  | .listBookings tag body => Sys2Proof.Machine.execListBookings tag body s
  | .linkSeries tag body => Sys2Proof.Machine.execLinkSeries tag body s
  | .linkSlot tag body => Sys2Proof.Machine.execLinkSlot tag body s
  | .unlink tag body => Sys2Proof.Machine.execUnlink tag body s
  | .queryLink tag body => Sys2Proof.Machine.execQueryLink tag body s
  | .queryPlan tag body => Sys2Proof.Machine.execQueryPlan tag body s
  | .queryClashes tag body => Sys2Proof.Machine.execQueryClashes tag body s
  | .liveClaim tag body => Sys2Proof.Machine.execLiveClaim tag body s
  | .liveRelease tag body => Sys2Proof.Machine.execLiveRelease tag body s
  | .clearFault tag body => Sys2Proof.Machine.execClearFault tag body s
  | .queryTuner tag body => Sys2Proof.Machine.execQueryTuner tag body s
  | .runStatus tag body => Sys2Proof.Machine.execRunStatus tag body s
  | .begun tag body => Sys2Proof.Machine.execBegun tag body s
  | .ended tag body => Sys2Proof.Machine.execEnded tag body s
  | .refusedReport tag body => Sys2Proof.Machine.execRefusedReport tag body s
  | .faultReport tag body => Sys2Proof.Machine.execFaultReport tag body s
  | .moved tag body => Sys2Proof.Machine.execMoved tag body s
  | .hostStateReady tag body => Sys2Proof.Machine.execHostStateReady tag body s
  | .hostStateStandby tag body => Sys2Proof.Machine.execHostStateStandby tag body s
  | .storageReport tag body => Sys2Proof.Machine.execStorageReport tag body s
  | .ackAlarm tag body => Sys2Proof.Machine.execAckAlarm tag body s
  | .fetchNotices tag body => Sys2Proof.Machine.execFetchNotices tag body s
  | .unknownKind tag kind body => Sys2Proof.Machine.execUnknownKind tag kind body s
  | .frameAssembled => Sys2Proof.Machine.execFrameAssembled s
  | .gapMark => Sys2Proof.Machine.execGapMark s
  | .replySent => Sys2Proof.Machine.execReplySent s
  | .resetnLow => Sys2Proof.Machine.execResetnLow s
  | .resetnRelease => Sys2Proof.Machine.execResetnRelease s
  | .secondEnd => Sys2Proof.Machine.execSecondEnd s
  | .nextChangeTaken => Sys2Proof.Machine.execNextChangeTaken s
  | .localDayStart => Sys2Proof.Machine.execLocalDayStart s
  | .effectiveStartReached handle => Sys2Proof.Machine.execEffectiveStartReached handle s
  | .paddedEndUnplaced handle => Sys2Proof.Machine.execPaddedEndUnplaced handle s
  | .paddedEndDue handle => Sys2Proof.Machine.execPaddedEndDue handle s
  | .undeliveredStartTimeout handle => Sys2Proof.Machine.execUndeliveredStartTimeout handle s
  | .effectiveEndReached handle => Sys2Proof.Machine.execEffectiveEndReached handle s
  | .accurateSlackEnd handle => Sys2Proof.Machine.execAccurateSlackEnd handle s
  | .purgeAgeReached handle => Sys2Proof.Machine.execPurgeAgeReached handle s
  | .yieldTimeReached => Sys2Proof.Machine.execYieldTimeReached s
  | .wakeInstantReached => Sys2Proof.Machine.execWakeInstantReached s
  | .startTimeout handle => Sys2Proof.Machine.execStartTimeout handle s
  | .stopTimeout handle => Sys2Proof.Machine.execStopTimeout handle s
  | .moveTimeout handle => Sys2Proof.Machine.execMoveTimeout handle s
  | .holdCompletes handle => Sys2Proof.Machine.execHoldCompletes handle s
  | .graceCountComplete tuner => Sys2Proof.Machine.execGraceCountComplete tuner s
  | .lossCountComplete tuner => Sys2Proof.Machine.execLossCountComplete tuner s
  | .regainCountComplete tuner => Sys2Proof.Machine.execRegainCountComplete tuner s
  | .failoverTest handle => Sys2Proof.Machine.execFailoverTest handle s
  | .attemptCountComplete => Sys2Proof.Machine.execAttemptCountComplete s
  | .pauseCountComplete => Sys2Proof.Machine.execPauseCountComplete s
  | .lockRise tuner => Sys2Proof.Machine.execLockRise tuner s
  | .lockFall tuner => Sys2Proof.Machine.execLockFall tuner s
  | .faultLineRise tuner => Sys2Proof.Machine.execFaultLineRise tuner s
  | .faultLineFall tuner => Sys2Proof.Machine.execFaultLineFall tuner s
  | .passEnd => Sys2Proof.Machine.execPassEnd s
  | .byteReceived data parityBit stopBit underOld => Sys2Proof.Machine.execByteReceived data parityBit stopBit underOld s
  | .crystalTick => Sys2Proof.Machine.execCrystalTick s

end Sys2Proof.Machine
end

