-- ==== Sys2Proof/Safety.lean ====
section
/-! DEFINITION. The words the statements are written in: when a request is taken into service, what a state keeps of another,
the laws of the output lines, the bounds of the tables, the records of the replies as the spec lays them out. -/

namespace Sys2Proof.Machine

/-! ## Taking a request -/

/-- The frame can be taken into service now: the part is out of reset, no trigger is left from an earlier command (log 4; linesFollow
says that none ever is), and the service state is Idle, or Applying with this frame at the front of the request queue (R202;
log 2). -/
def State.takes (s : State) (f : Frame) : Prop :=
  s.lines.resetn = true ∧ s.planner.triggered = false ∧
    (s.link.phase = .idle ∨ (s.link.phase = .applying ∧ s.link.requests.head? = some f))

/-- The state in which the owner of a frame applies it. -/
def State.taken (s : State) (f : Frame) : State :=
  match s.link.phase with
  | .idle => (s.setLink { s.link with requests := [f], phase := .applying }).driveRts
  | _ => s

/-- The reply being sent. -/
def State.sends (s : State) (r : Reply) : Prop := s.link.phase = .sending r

/-- A reply is held for the end of a pass. -/
def State.holdsReply (s : State) : Prop := ∃ n plan, s.link.phase = .holding n plan

/-- A pass is Running, or a further pass is certain (R86). -/
def State.passComes (s : State) : Prop := s.planner.running.isSome = true

/-- The reply to a frame is being sent, with a result and its values (R204). -/
def State.replies (t : State) (f : Frame) (r : Result) (d : ReplyData) : Prop := t.sends ⟨f.tag, replyKind f.kind, r, d⟩

/-- The reply waits for a pass, and that pass comes (R87, R202). -/
def State.awaits (t : State) (plan : ReplyPlan) : Prop := (∃ n, t.link.phase = .holding n plan) ∧ t.passComes

/-- The reply, complete, is being sent or waits for a pass. -/
def State.answers (t : State) (f : Frame) (r : Result) (d : ReplyData) : Prop := t.replies f r d ∨ t.awaits (.done r d)

/-- A number as three bytes, high byte first (R204). -/
def be24 (n : Nat) : List Byte := [BitVec.ofNat 8 (n / 65536), BitVec.ofNat 8 (n / 256), BitVec.ofNat 8 n]

/-- The bytes of one GuideBatch entry, as R214 lays them out. -/
def BatchEntry.bytes (e : BatchEntry) : List Byte :=
  be16 e.id ++ be32 e.offset ++
    be24 (e.duration + 131072 * e.tag.isSome.toNat + 262144 * e.key.isSome.toNat + 524288 * e.capable.toNat) ++
    be24 (e.spacing + 131072 * e.repeats) ++ [BitVec.ofNat 8 e.step] ++ ((e.tag.map be32).getD [] ++ (e.key.map be32).getD [])

/-- The fields of an entry fit their places (R214). -/
def BatchEntry.fits (e : BatchEntry) : Prop :=
  e.id < 65536 ∧ e.offset < 4294967296 ∧ e.duration < 131072 ∧ e.spacing < 131072 ∧ e.repeats < 32 ∧ e.step < 256 ∧
    (∀ x, e.tag = some x → x < 4294967296) ∧ ∀ x, e.key = some x → x < 4294967296

/-- The bytes are n entries whose lengths the marks give, 13, 17 or 21 each, and no byte more (R214). The marks of tag and key are bits
17 and 18 of the duration field: bits 1 and 2 of the entry's byte 6. -/
def entriesFill : Nat → List Byte → Bool
  | 0, bytes => bytes.isEmpty
  | n + 1, bytes =>
    let marks := bytes.getD 6 0
    let length := 13 + 4 * (marks.getLsbD 1).toNat + 4 * (marks.getLsbD 2).toNat
    decide (length ≤ bytes.length) && entriesFill n (bytes.drop length)

/-- The body length is one that the kind table accepts (R213), and for a GuideBatch by R214. -/
def lengthAllowed (kind : Byte) (body : List Byte) : Bool :=
  let n := body.length
  match kind.toNat with
  | 0x03 => n == 5 | 0x04 => n == 1 | 0x06 => decide (n ≤ 239)
  | 0x10 => n == 4 | 0x11 => n == 9
  | 0x18 => n == 3 | 0x19 => n == 5 | 0x1A => n == 1 | 0x1B => n == 2
  | 0x20 => decide (15 ≤ n) && decide ((body.getD 14 0).toNat ≤ 16) && entriesFill (body.getD 14 0).toNat (body.drop 15)
  | 0x21 => n == 11 | 0x22 => n == 4
  | 0x28 => n == 11 | 0x29 => n == 17 | 0x2A => n == 9 | 0x2B => n == 2 | 0x2C => n == 2 | 0x2D => n == 2 | 0x2E => n == 3
  | 0x30 => n == 14 | 0x31 => n == 16 | 0x32 => n == 2 | 0x33 => n == 1
  | 0x38 => n == 10 | 0x39 => n == 1
  | 0x40 => n == 2 | 0x42 => n == 1
  | 0x48 => n == 5 | 0x49 => n == 4
  | 0x50 => n == 2 | 0x54 => n == 5
  | _ => n == 0

/-- A coded field of the body that is used names none of its choices, kind by kind (R215): the byte's place and its greatest choice; an
accurate flag stands 6 bytes behind its presence byte and is used under its mark. -/
def codedWrong (kind : Byte) (body : List Byte) : Bool :=
  let above := fun (place greatest : Nat) => decide (greatest < (body.getD place 0).toNat)
  let flag := fun (presence : Nat) => (body.getD presence 0).getLsbD 3 && above (presence + 6) 1
  match kind.toNat with
  | 0x11 => above 2 1 | 0x21 => above 2 1 | 0x28 => flag 4 | 0x29 => flag 10 | 0x2A => flag 2 | 0x2E => above 2 2
  | 0x30 => above 6 1 || flag 7 | 0x31 => flag 9 | 0x32 => above 1 1 | 0x38 => above 0 1 | 0x40 => above 1 1 | 0x42 => above 0 1
  | 0x48 => above 4 3 | 0x49 => above 2 4 | 0x50 => above 0 1 || ((body.getD 0 0).toNat == 1 && above 1 1) | 0x54 => above 0 1
  | _ => false

/-! ## The records of the replies, as 11_the_message_link.md lays them out -/

/-- The place of a choice in the list of its choices, from 0, as one byte. -/
def choiceByte {α : Type} [DecidableEq α] (choices : List α) (x : α) : Byte := BitVec.ofNat 8 (choices.idxOf x)

/-- Marks as one number, the first in the least significant bit. -/
def markNumber : List Bool → Nat
  | [] => 0
  | m :: rest => m.toNat + 2 * markNumber rest

/-- The lifecycle states in the order of their codes (booking record, offset 31). -/
def stateByte : Lifecycle → Byte := choiceByte [.pending, .armed, .due, .recording, .stopping, .finished]

/-- 0 Placed on A, 1 Placed on B, 2 Unplaced, 3 None (booking record, offset 33). -/
def placementByte : Placement → Byte
  | .placed .a _ _ => 0
  | .placed .b _ _ => 1
  | .unplaced _ => 2
  | .none => 3

/-- Effective start and effective end, zero where the booking is not Placed (booking record, offset 34). -/
def windowBytes : Placement → List Byte
  | .placed _ a e => be32 a ++ be32 e
  | _ => List.replicate 8 0

/-- The cause set: Slots, Multiplex, Quadrant, Fault, Live (booking record, offset 42). -/
def causeByte (c : Causes) : Byte := BitVec.ofNat 8 (markNumber [c.slots, c.multiplex, c.quadrant, c.fault, c.live])

/-- The outcomes in the order of their codes (booking record, offset 43). -/
def outcomeByte (v : Verdict) : Byte := choiceByte [.completed, .partially, .missed, .failed, .cancelled] v.kind

/-- The reasons in the order of their codes (booking record, offset 44). -/
def reasonByte (v : Verdict) : Byte :=
  choiceByte [.scheduled, .hostStop, .unconfirmed, .fault, .clash, .neverRan, .hostAbsent, .clockStep, .guideMoved, .noStart, .refused,
    .request, .guideDrop, .unlinked] v.reason

/-- 0 A, 1 B. -/
def tunerByte : TunerId → Byte := choiceByte [.a, .b]

/-- An order record of 12 bytes. -/
def orderRecord (o : Order) : List Byte :=
  [choiceByte [.start, .stop, .move] o.kind, BitVec.ofNat 8 o.attempt] ++ be16 o.handle ++
    [(o.tuner.map tunerByte).getD 0xFF, BitVec.ofNat 8 o.mux] ++ be16 o.service ++ be32 o.issued

/-- The code, subject and payload of a notice by its kind. -/
def noticeFields : NoticeBody → Byte × Nat × List Byte
  | .bookingState h r => (1, h, [stateByte r.state, placementByte r.placement] ++ windowBytes r.placement ++
      [causeByte (match r.placement with
        | .unplaced c => c
        | _ => r.lastCauses),
       (r.verdict.map outcomeByte).getD 0xFF, (r.verdict.map reasonByte).getD 0])
  | .clashFound h c => (2, h, [causeByte c])
  | .clashCleared h x a e => (3, h, tunerByte x :: (be32 a ++ be32 e))
  | .seriesBooked l h => (4, l, be16 h)
  | .seriesFull l => (5, l, [])
  | .tunerChange x c latch mux cause => (6, (tunerByte x).toNat,
      [choiceByte [.unused, .tuning, .locked, .lost, .faulted] c, BitVec.ofNat 8 latch.toNat, BitVec.ofNat 8 (mux.getD 0xFF),
       choiceByte [.use, .release, .grace, .loss, .regain, .retune, .fault, .clear] cause])
  | .liveYield x mux y => (7, (tunerByte x).toNat, [BitVec.ofNat 8 mux, BitVec.ofNat 8 y.isSome.toNat] ++ be32 (y.getD 0))
  | .wakeFailed k due source => (8, 0, BitVec.ofNat 8 k :: (be32 due ++ be16 source))
  | .clockStepped old new => (9, 0, be32 old ++ be32 new)
  | .zoneChanged old new cause => (10, 0, be16i old ++ be16i new ++ [choiceByte [.report, .scheduled] cause])
  | .spaceLow free need floor counted => (11, 0, be32 free ++ be32 need ++ be16 floor ++ [BitVec.ofNat 8 counted])

/-- A notice record of 20 bytes: kind, subject, time queued, and 13 bytes of payload, those not used zero. -/
def noticeRecord (n : Notice) : List Byte :=
  let fields := noticeFields n.body
  [fields.1] ++ be16 fields.2.1 ++ be32 n.time ++ fields.2.2 ++ List.replicate (13 - fields.2.2.length) 0

/-! ## What is kept -/

/-- Clock, catalogue and guide, with the parts of the machine that only the link and the lines change. -/
def State.shell (s : State) : TimeBase × Catalogue × List Event × LinkInterface × Lines × List Instr :=
  (s.time, s.catalogue, s.guide, s.link, s.lines, s.pending)

/-- The link, the lines and the waiting commands. -/
def State.outer (s : State) : LinkInterface × Lines × List Instr := (s.link, s.lines, s.pending)

/-- The tables and units behind the link: everything but planner, link, lines and the waiting commands. -/
def State.core (s : State) :
    TimeBase × Catalogue × List Event × List Link × BookingTable × OrderUnit × TunerMonitor × WakeUnit × Estimator × NoticeQueue :=
  (s.time, s.catalogue, s.guide, s.links, s.book, s.orders, s.monitor, s.wake, s.storage, s.notices)

/-- The input levels and RESETN, and what the serial lines do in the ticks to come. -/
def Lines.inputs (l : Lines) : Bool × Bool × Bool × Bool × Bool × Bool × List (List LineEvent) :=
  (l.resetn, l.cts, l.lockA, l.lockB, l.faultA, l.faultB, l.ahead)

/-- The settings, and the rate and parity of the line, in force and pending. -/
def LinkInterface.config (l : LinkInterface) : Settings × LineSettings × LineSettings × Option LineSettings :=
  (l.settings, l.line, l.lineBefore, l.pendingLine)

/-! ## Invariants -/

/-- The booking table in ascending order of handle, no handle twice, at most 128 records, handles and the next handle from 1 to 65535
(R41, R43). -/
def BookingTable.ordered (t : BookingTable) : Prop :=
  (t.records.map (·.handle)).Pairwise (· < ·) ∧ t.records.length ≤ 128 ∧
    (∀ b ∈ t.records, 1 ≤ b.handle ∧ b.handle ≤ 65535) ∧ 1 ≤ t.next ∧ t.next ≤ 65535

/-- At most one order for each booking (R115, Law 6). -/
def OrderUnit.single (o : OrderUnit) : Prop := (o.orders.map (·.handle)).Nodup

/-- At most 48 notices, and at most one BookingState for each booking (R188, Law 7). -/
def NoticeQueue.bounded (q : NoticeQueue) : Prop :=
  q.queue.length ≤ 48 ∧ (q.queue.filterMap fun n => n.body.stateOf).Nodup

/-- The three tables hold to their rules. -/
def State.tablesHold (s : State) : Prop := s.book.ordered ∧ s.orders.single ∧ s.notices.bounded

/-- While RESETN is high, REC, ATTN and WAKE follow the state, and no trigger is left untaken (R64, R193, R160, R86). -/
def State.linesFollow (s : State) : Prop :=
  s.lines.resetn = true →
    s.lines.rec_ = recLevel s.book.records ∧ s.lines.attn = attnLevel s.orders.orders s.notices.queue ∧
      s.lines.wake = wakeLevel s.wake.host ∧ s.planner.triggered = false

/-- t is u once the command has ended: every table and unit behind the link, the settings, the input levels and the waiting
commands are u's, and the output lines follow. The planner, the service state and the assembler are spoken of apart. -/
def State.becomes (t u : State) : Prop :=
  t.core = u.core ∧ t.link.config = u.link.config ∧ t.lines.inputs = u.lines.inputs ∧ t.pending = u.pending ∧ t.linesFollow

/-- t is s, nothing changed behind the link and no pass asked for. -/
def State.unchanged (t s : State) : Prop := t.becomes s ∧ t.planner = s.planner

/-! ## What a command did to a booking -/

/-- Clock, catalogue, guide, settings, input levels and the waiting commands are s's, and the output lines follow. -/
def State.surrounds (t s : State) : Prop :=
  t.time = s.time ∧ t.catalogue = s.catalogue ∧ t.guide = s.guide ∧ t.link.config = s.link.config ∧
    t.lines.inputs = s.lines.inputs ∧ t.pending = s.pending ∧ t.linesFollow

/-- A BookingState notice with this payload is queued in t, unless the class is masked or the queue was full and the notice was lost (R51,
R186). -/
def State.tellsOf (t : State) (h : Nat) (r : BookingReport) : Prop :=
  t.link.settings.noticeMask.getLsbD 0 = true → t.notices.lost = true ∨ ∃ n ∈ t.notices.queue, n.body = .bookingState h r

/-- The BookingState notice of a changed record is told in t, with the record's values (R51). -/
def State.tells (t : State) (x : Booking) : Prop := t.tellsOf x.handle ⟨x.state, x.placement, x.verdict, .none⟩

/-- The BookingState notice of the finish of b is told in t: the outcome, and for Missed (Clash) the cause set of its last placement (R51,
R52). -/
def State.tellsFinish (t : State) (b : Booking) (v : Verdict) : Prop :=
  t.tellsOf b.handle ⟨.finished, .none, some v, if v = ⟨.missed, .clash⟩ then b.placement.causes else .none⟩

/-- The notice queue q once s has offered the TunerChange notice of a tuner that has become u (R153, R186). -/
def State.tellChange (s : State) (x : TunerId) (u : Tuner) (cause : ChangeCause) (q : NoticeQueue) : NoticeQueue :=
  offerTo s.link.settings.noticeMask ⟨.tunerChange x u.condition u.faultLatch u.tuned cause, s.time.seconds⟩ q

/-- The booking b of s has finished in t: the record of R47, no order left, a pass to come, and its notice (R47, R51, R85, R121). -/
def State.finishedAs (t s : State) (b : Booking) (v : Verdict) (unconfirmed : Bool) : Prop :=
  t.booking? b.handle = some (b.finished v unconfirmed s.time.seconds) ∧ t.orderOf b.handle = none ∧ t.passComes ∧ t.tellsFinish b v

/-- The order a booking holds in t was issued now: undelivered, its seconds counted from 0 (R119), with its kind, tuner and attempt, the
booking's service and that service's multiplex (R115), and the mark of the Start that Running taking effect issues (R117, R123). -/
def State.ordered (t s : State) (h : Nat) (kind : OrderKind) (tuner : Option TunerId) (attempt : Nat) (onRunning : Bool) : Prop :=
  ∃ o b, t.orderOf h = some o ∧ s.booking? h = some b ∧ o.kind = kind ∧ o.tuner = tuner ∧ o.attempt = attempt ∧ o.delivered = false ∧
    o.issued = s.time.seconds ∧ o.elapsed = 0 ∧ o.service = b.service ∧ o.mux = muxOf s.catalogue.services b.service ∧
    o.onRunning = onRunning

/-- The gap of the booking b of s has ended in t: an undelivered Move is withdrawn with its target, and any other order stands, a delivered
Move with its target too (R134, R136). Gap count, gap seconds and everything else of the record stand; the seconds to the next failover test
mean nothing out of a gap. -/
def State.gapEnds (t s : State) (b : Booking) : Prop :=
  let withdrawn := ∃ o, s.orderOf b.handle = some o ∧ o.kind = .move ∧ o.delivered = false
  let out := fun (n : Nat) (target : Option MoveTarget) =>
    { b with items := { b.items with inGap := false, failover := n, moveTarget := target } }
  (withdrawn → t.orderOf b.handle = none ∧ ∃ n, t.booking? b.handle = some (out n none)) ∧
    (¬ withdrawn → t.orderOf b.handle = s.orderOf b.handle ∧ ∃ n, t.booking? b.handle = some (out n b.items.moveTarget))

/-- The gaps of the bookings Recording on tuner x have ended in t; every other record and order is s's (R134, R136, R152). -/
def State.gapsEndOn (t s : State) (x : TunerId) : Prop :=
  ∀ b, s.booking? b.handle = some b →
    (b.state = .recording ∧ b.placement.tuner? = some x ∧ b.items.inGap = true → t.gapEnds s b) ∧
    (¬ (b.state = .recording ∧ b.placement.tuner? = some x ∧ b.items.inGap = true) →
      t.booking? b.handle = some b ∧ t.orderOf b.handle = s.orderOf b.handle)

/-- g is what the failover test of a booking reads (R135): latches, feed mode and quadrants as they stand, and the occupancies of the plan as
last written less the booking's own, that of each booking holding a Move on the Move's tuner, over its span in the plan (log 36). -/
def State.failoverReads (s : State) (h : Nat) (g : Ground) : Prop :=
  g.muxes = s.catalogue.muxes ∧ g.feedMode = s.link.settings.feedMode ∧ g.faultA = s.monitor.a.faultLatch ∧
    g.faultB = s.monitor.b.faultLatch ∧
    ∃ f : Occupancy → Occupancy, g.laid = (s.planner.plan.filter fun q => q.kind == .live || q.handle != h).map f ∧
      ∀ q, (q.kind = .live → f q = q) ∧
        (∀ o y, q.kind ≠ .live → s.orderOf q.handle = some o → o.kind = .move → o.tuner = some y → f q = { q with tuner := y }) ∧
        (q.kind ≠ .live → (∀ o, s.orderOf q.handle = some o → o.kind ≠ .move ∨ o.tuner = none) → f q = q)

/-- The booking b of s has entered Stopping in t: stop cause and stop instant, no candidate, overrun claim or move target left, the gap of
a Recording booking ended, its notice, a Stop order (R51, R120, R129, R132, R134, R137). -/
def State.stopsAs (t s : State) (b : Booking) (cause : StopCause) (truncated : Bool) : Prop :=
  (∃ x, t.booking? b.handle = some x ∧ x.state = .stopping ∧ x.stopCause = some cause ∧ x.placement = b.placement ∧
    x.actualStart = b.actualStart ∧ x.actualStop = b.actualStop ∧
    x.flags = { b.flags with truncated := b.flags.truncated || truncated } ∧
    x.items.stopAt = some s.time.seconds ∧ x.items.candidate = none ∧ x.items.overrun = .none ∧
    x.items.inGap = (b.state != .recording && b.items.inGap) ∧ x.items.moveTarget = none ∧ t.tells x) ∧
  t.ordered s b.handle .stop none 1 false

/-- The booking b of s has finished in t by a command that acts on several bookings: as finishedAs, but for its main event, times and
alternatives, which a Starved link retried at another finish may have changed first (R47, R76). -/
def State.finishedAmong (t s : State) (b : Booking) (v : Verdict) : Prop :=
  (∃ x, t.booking? b.handle = some x ∧ x.state = .finished ∧ x.verdict = some v ∧ x.finishedAt = some s.time.seconds ∧
    x.placement = .none ∧ x.items = .empty ∧ x.actualStart = b.actualStart ∧ x.actualStop = b.actualStop ∧ x.flags = b.flags) ∧
  t.orderOf b.handle = none ∧ t.passComes ∧ t.tellsFinish b v

/-- The booking b of s has entered Stopping in t by a command that acts on several bookings: as stopsAs, but for its gap and flags, which
the tuner of another booking the command acts on may bear on (R120, R129, R132, R138). -/
def State.stopsAmong (t s : State) (b : Booking) (cause : StopCause) : Prop :=
  (∃ x, t.booking? b.handle = some x ∧ x.state = .stopping ∧ x.stopCause = some cause ∧ x.placement = b.placement ∧
    x.actualStart = b.actualStart ∧ x.actualStop = b.actualStop ∧ x.items.stopAt = some s.time.seconds ∧ x.items.candidate = none ∧
    x.items.overrun = .none ∧ x.items.moveTarget = none ∧ t.tells x) ∧
  t.ordered s b.handle .stop none 1 false

end Sys2Proof.Machine
end

