-- ==== Sys2Proof/Certificates/Slice0/Obligations.lean ====
section
/-! DEFINITION. The statements for the provers. -/

open Sys2Proof Sys2Proof.Machine

/-! ## The queue of commands, the step, what every step keeps -/

/-- A step takes the command at the front of the queue and answers what exec answers on the state with the queue's rest; on an empty queue
the block idles (log 3, the model's choice). -/
def Obligations.StepRunsFrontCommand : Prop :=
  (∀ (c : Instr) (rest : List Instr) (s : State), step (s.setPending (c :: rest)) = exec c (s.setPending rest)) ∧
  ∀ s : State, s.pending = [] → step s = .next s

/-- Every command answers a next state, whatever the state, and leaves the queue of waiting commands alone: no command ends in
a fault or a refusal. -/
def Obligations.EveryCommandAnswersANextState : Prop :=
  ∀ (i : Instr) (s : State), ∃ t, exec i s = .next t ∧ t.pending = s.pending

/-- The machine after a power-on reset follows its lines and holds to the rules of its tables. -/
def Obligations.ResetKeepsTheRules : Prop := State.reset.linesFollow ∧ State.reset.tablesHold

/-- Every step keeps the laws of the output lines: while RESETN is high, REC is asserted exactly while a booking is Recording, ATTN
exactly while an undelivered order or a notice stands, WAKE exactly in Asserting, and no pass trigger is left untaken. -/
def Obligations.StepKeepsLines : Prop := ∀ s t : State, s.linesFollow → step s = .next t → t.linesFollow

/-- Every step keeps the rules of the tables: bookings in ascending handle, no handle twice, at most 128, handles from 1 to 65535;
one order a booking; at most 48 notices and one BookingState a booking. -/
def Obligations.StepKeepsTables : Prop := ∀ s t : State, s.tablesHold → step s = .next t → t.tablesHold

/-- What the spec's state tables give after a power-on reset, and the defaults of the settings table. The gap timer stopped is the model's
choice (log 9), as are no byte begun on either line, and no command and nothing of the serial lines waiting (log 28). No count of elapsed
seconds runs: the grace, loss and regain counts of both tuners and the attempt and pause counts are absent. -/
def Obligations.ResetValues : Prop :=
  let s := State.reset
  (s.time.seconds = 0 ∧ s.time.sub = 0 ∧ s.time.hold = 0 ∧ s.time.clockSet = false ∧ s.time.trim = 0 ∧ s.time.slew = 0 ∧ s.time.capture = none ∧
    s.time.zone = 0 ∧ s.time.nextChange = none ∧ s.time.lastDate = none) ∧
  (s.catalogue.muxes = [] ∧ s.catalogue.services = [] ∧ s.guide = [] ∧ s.links = [] ∧ s.book.records = [] ∧ s.book.next = 1) ∧
  (s.planner.plan = [] ∧ s.planner.clashes = [] ∧ s.planner.running = none ∧ s.planner.repass = false ∧ s.planner.lastT0 = none ∧
    s.planner.triggered = false) ∧
  (s.orders.orders = [] ∧ s.orders.stepHold = none) ∧
  (∀ x, (s.tuner x).condition = .unused ∧ (s.tuner x).faultLatch = false ∧ (s.tuner x).changeLatch = false ∧
    (s.tuner x).tuned = none ∧ (s.tuner x).grace = none ∧ (s.tuner x).loss = none ∧ (s.tuner x).regain = none) ∧
  (s.monitor.live = none ∧ s.monitor.yieldTaken = none) ∧
  (s.wake.host = .up ∧ s.wake.attempt = none ∧ s.wake.pause = none ∧ s.wake.due = none ∧ s.wake.wakeAt = none ∧ s.wake.abandon = [] ∧ s.wake.failed = 0) ∧
  (s.storage.free = none ∧ s.storage.need = 0 ∧ s.storage.counted = 0 ∧ s.storage.low = false) ∧
  (s.notices.queue = [] ∧ s.notices.lost = false) ∧
  (s.link.fifo = [] ∧ s.link.assembler = .hunting ∧ s.link.requests = [] ∧ s.link.phase = .idle ∧ s.link.counters = ⟨0, 0, 0, 0, 0⟩ ∧
    s.link.line = ⟨115200, false⟩ ∧ s.link.lineBefore = ⟨115200, false⟩ ∧ s.link.pendingLine = none ∧ s.link.gapTimer = none ∧ s.link.rxLine = none ∧
    s.link.txBegun = false ∧ s.link.txSent = 0) ∧
  s.link.settings =
    { linkRate := 115200, parityEven := false, rxTrigger := 48, prePadDefault := 120, postPadDefault := 300, purgeAge := 48,
      feedMode := .independent, liveRank := 8, orderTimeout := 20, runHold := 4, accurateSlack := 1800, lossExtended := false,
      gapLimit := 300, wakeOff := false, wakeLead := 300, wakeTimeout := 180, spaceFloor := 2000, spaceHorizon := 7,
      spaceAlarm := true, defaultRate := 8000, noticeMask := 0x7F } ∧
  (s.lines.rts = true ∧ s.lines.attn = false ∧ s.lines.wake = false ∧ s.lines.rec_ = false ∧ s.lines.ahead = []) ∧ s.pending = []

/-! ## Frames (R199, R203, R204, R213 to R215) -/

/-- Every well-formed request is read back from its frame: kind code, tag and body select exactly its row. Which row a body that its own
row cannot use belongs to is the model's choice (log 29). -/
def Obligations.RequestCodingAgrees : Prop :=
  ∀ (i : Instr) (f : Frame), i.wellFormed = true → frameOf i = some f → requestOf f = i

/-- The check over the nine characters "123456789" is 0x29B1, and over no byte 0xFFFF. The bytes of a frame are collected by a hunting
assembler without a discard, its last check byte completes the frame, and the frame read back is the same and good. -/
def Obligations.FrameBytesAreRead : Prop :=
  crc16 [0x31, 0x32, 0x33, 0x34, 0x35, 0x36, 0x37, 0x38, 0x39] = 0x29B1#16 ∧ crc16 [] = 0xFFFF#16 ∧
  ∀ f : Frame, f.body.length ≤ 240 →
    ∃ (bytes : List Byte) (last : Byte), Frame.bytes f = Config.startByte :: (bytes ++ [last]) ∧
      (Config.startByte :: bytes).foldl (fun (r : Assembler × List LinkCounter) d =>
        let n := assemble r.1 (.byte d false)
        (n.1, r.2 ++ n.2.toList)) (.hunting, []) = (.receiving bytes, []) ∧
      completes (.receiving bytes) (.byte last false) = true ∧
      frameOfBytes (bytes ++ [last]) = some (f, true)

/-- The fields of each request body, laid out as R215 lists them, are read back: the bodies of TimeReport to StorageReport, the one-byte
bodies of MuxDrop, QueryLink, QueryClashes and GetSetting, SetSetting (R209); and a GuideBatch of at most 16 entries laid out as R214 gives
them, with tag and key where their marks are set. Each optional value is read for every presence byte k: bit 0 the priority, bit 1 the
pre-padding, bit 2 the post-padding, bit 3 the accurate flag, a value whose mark is clear ignored, the other bits too. Each coded field that
is used is read for each of its choices, and any other value of it is BadField; bit 7 of a weekday mask is ignored, and a field not used
takes any value. -/
def Obligations.RequestFieldsAreRead : Prop :=
  (∀ (a t u v : Nat) (es : List BatchEntry), a < 65536 → t < 4294967296 → u < 4294967296 → v < 4294967296 → es.length ≤ 16 →
    (∀ e ∈ es, e.fits) →
    parseGuideBatch (be16 a ++ be32 t ++ be32 u ++ be32 v ++ [BitVec.ofNat 8 es.length] ++ es.flatMap BatchEntry.bytes) =
      .ok ⟨a, t, u, v, es⟩) ∧
  (∀ (a b t u v : Nat) (p m : Byte), a < 65536 → b < 65536 → t < 4294967296 → u < 4294967296 → v < 4294967296 →
    parseTimeReport (be32 t) = .ok t ∧
    parseZoneReport (be16 a ++ [m] ++ be32 t ++ be16 b) =
      (if m = 0 then .ok ⟨signed16 a, none⟩ else if m = 1 then .ok ⟨signed16 a, some (t, signed16 b)⟩ else .error .badField) ∧
    parseMuxLoad (be16 a ++ [p]) = .ok (a, p.toNat) ∧
    parseServiceLoad (be16 a ++ [p] ++ be16 b) = .ok ⟨a, p.toNat, b⟩ ∧
    parseGuideDrop (be16 a ++ [m] ++ be32 t ++ be32 u) =
      (if m = 0 then .ok ⟨a, some (t, u)⟩ else if m = 1 then .ok ⟨a, none⟩ else .error .badField) ∧
    parseEventRef (be16 a ++ be16 b) = .ok ⟨a, b⟩ ∧ parseWord (be16 a) = .ok a ∧ parseByte [p] = .ok p.toNat ∧
    parseListBookings (be16 a ++ [m]) =
      (if m = 0 then .ok (a, .any) else if m = 1 then .ok (a, .unfinished) else if m = 2 then .ok (a, .finished) else .error .badField) ∧
    parseUnlink [p, m] = (if m = 0 then .ok (p.toNat, false) else if m = 1 then .ok (p.toNat, true) else .error .badField) ∧
    parseQueryPlan ([m] ++ be32 t ++ be32 u ++ [p]) =
      (if m = 0 then .ok ⟨.a, t, u, p.toNat⟩ else if m = 1 then .ok ⟨.b, t, u, p.toNat⟩ else .error .badField) ∧
    parseLiveClaim [p, m] = (if m = 0 then .ok (p.toNat, .a) else if m = 1 then .ok (p.toNat, .b) else .error .badField) ∧
    parseClearFault [m] = (if m = 0 then .ok .a else if m = 1 then .ok .b else .error .badField) ∧
    parseRunStatus (be16 a ++ be16 b ++ [m]) =
      (if m = 0 then .ok (⟨a, b⟩, .notRunning) else if m = 1 then .ok (⟨a, b⟩, .startsSoon) else if m = 2 then .ok (⟨a, b⟩, .running)
       else if m = 3 then .ok (⟨a, b⟩, .paused) else .error .badField) ∧
    parseReport (be16 a ++ [m] ++ [p]) = (if m.toNat ≤ 4 then .ok a else .error .badField) ∧
    parseHostState [0, p] = .ok none ∧
    parseHostState [1, m] = (if m = 0 then .ok (some false) else if m = 1 then .ok (some true) else .error .badField) ∧
    (m ≠ 0 → m ≠ 1 → parseHostState [m, p] = .error .badField) ∧
    parseStorageReport ([m] ++ be32 v) = (if m = 0 then .ok (some v) else if m = 1 then .ok none else .error .badField) ∧
    parseSetSetting ([p] ++ be32 v) = .ok (p.toNat, v)) ∧
  ∀ (a b c d t u : Nat) (k p q m n : Byte), a < 65536 → b < 65536 → c < 65536 → d < 65536 → t < 4294967296 → u < 4294967296 →
    (let tail := [k, p] ++ be16 c ++ be16 d ++ [n]
     let values := fun (accurate : Option Bool) => (⟨if k.getLsbD 0 = true then some p.toNat else none,
       if k.getLsbD 1 = true then some c else none, if k.getLsbD 2 = true then some d else none, accurate⟩ : Options)
     let reads := fun (accurate : Option Bool) =>
       parseBookEvent (be16 a ++ be16 b ++ tail) = .ok (⟨a, b⟩, values accurate) ∧
       parseBookTime (be16 a ++ be32 t ++ be32 u ++ tail) = .ok (⟨a, t, u⟩, values accurate) ∧
       parseAmend (be16 a ++ tail) = .ok (a, values accurate) ∧
       parseLinkSeries (be32 t ++ be16 a ++ [m] ++ tail) =
         (if m = 0 then .ok (⟨t, if a = 65535 then none else some a, .newOnly⟩, values accurate)
          else if m = 1 then .ok (⟨t, if a = 65535 then none else some a, .all⟩, values accurate) else .error .badField) ∧
       parseLinkSlot (be16 a ++ [q] ++ be16 b ++ be32 t ++ tail) = .ok (⟨a, q.extractLsb' 0 7, b, t⟩, values accurate)
     (k.getLsbD 3 = false → reads none) ∧
     (k.getLsbD 3 = true → n = 0 → reads (some false)) ∧
     (k.getLsbD 3 = true → n = 1 → reads (some true)) ∧
     (k.getLsbD 3 = true → n ≠ 0 → n ≠ 1 →
       parseBookEvent (be16 a ++ be16 b ++ tail) = .error .badField ∧
       parseBookTime (be16 a ++ be32 t ++ be32 u ++ tail) = .error .badField ∧ parseAmend (be16 a ++ tail) = .error .badField ∧
       parseLinkSeries (be32 t ++ be16 a ++ [m] ++ tail) = .error .badField ∧
       parseLinkSlot (be16 a ++ [q] ++ be16 b ++ be32 t ++ tail) = .error .badField))

/-! ## The link (R196 to R202) -/

/-- FRAME_ASSEMBLED (log 32): the completed frame, good, enters the request queue and in Idle is taken at once; with two frames waiting it is
counted as queue full; with other check bytes it is counted as bad check. In each case the assembler returns to Hunting, and RTS follows.
What stands in the FIFO behind the frame is drained then, as BytesEnterTheFifo says. -/
def Obligations.FrameAssembledJudges : Prop :=
  ∀ (s : State) (bytes : List Byte) (d : Byte) (behind : List FifoItem) (f : Frame), s.lines.resetn = true →
    s.link.phase ≠ .applying → s.link.assembler = .receiving bytes → s.link.fifo = .byte d false :: behind →
    completes (.receiving bytes) (.byte d false) = true →
    (let taken := { s.link with fifo := behind, assembler := .hunting }
     ∃ t, exec .frameAssembled s = .next t ∧ t.becomes s ∧
      (frameOfBytes (bytes ++ [d]) = some (f, true) →
        (s.link.requests.length < 2 →
          (let u := (s.setLink { taken with
             requests := s.link.requests ++ [f]
             phase := if s.link.phase = .idle then .applying else s.link.phase }).driveRts.drain
           t.link = u.link ∧ t.lines.rts = u.lines.rts)) ∧
        (2 ≤ s.link.requests.length →
          (let u := (s.setLink { taken with
             counters := { s.link.counters with queueFull := min (s.link.counters.queueFull + 1) 65535 } }).driveRts.drain
           t.link = u.link ∧ t.lines.rts = u.lines.rts))) ∧
      (frameOfBytes (bytes ++ [d]) = some (f, false) →
        (let u := (s.setLink { taken with
           counters := { s.link.counters with badCheck := min (s.link.counters.badCheck + 1) 65535 } }).driveRts.drain
         t.link = u.link ∧ t.lines.rts = u.lines.rts)))

/-- BYTE_RECEIVED and GAP_MARK (logs 9, 21): a byte stands at the end of the FIFO with its error mark, a stop bit low or, with parity even at
its start bit, an odd number of ones; with 64 entries it is lost and leaves one overrun mark; the gap timer starts again. At 328 ticks with
RTS asserted a gap mark enters the FIFO and the timer stops; before that, and with RTS deasserted, GAP_MARK changes nothing. A start bit
keeps the settings in force for its byte and stops the timer, but for a mark already due (logs 9, 28). Then the FIFO is drained: while a
request is Applying nothing is taken; otherwise entry by entry up to one that completes a frame, which is FRAME_ASSEMBLED's (log 32), with
the discards of R199 and R200 and their counters. RTS is set again at each entry:
false at RxTrigger entries or two frames, true at 8 entries or fewer, otherwise as it was. -/
def Obligations.BytesEnterTheFifo : Prop :=
  (∀ (s : State) (data : Byte) (parityBit stopBit underOld : Bool), s.lines.resetn = true →
    (let bad := !stopBit || ((s.link.rxLine.getD (if underOld then s.link.lineBefore else s.link.line)).parityEven &&
       !evenOnes data parityBit)
     let fifo := if entryCount s.link.fifo < 64 then s.link.fifo ++ [.byte data bad]
       else if s.link.fifo.getLast? = some .overrun then s.link.fifo else s.link.fifo ++ [.overrun]
     ∃ t, exec (.byteReceived data parityBit stopBit underOld) s = .next t ∧ t.becomes s ∧
       (let u := (s.setLink { s.link with fifo := fifo, gapTimer := some 0, rxLine := none }).driveRts.drain
        t.link = u.link ∧ t.lines.rts = u.lines.rts) ∧
       (s.link.phase = .applying → t.link.fifo = fifo ∧ t.link.gapTimer = some 0 ∧
         (s.link.settings.rxTrigger ≤ entryCount fifo → t.lines.rts = false)))) ∧
  (∀ s : State, s.lines.resetn = true → s.lines.rts = true → s.link.gapTimer = some 328 →
    ∃ t, exec .gapMark s = .next t ∧ t.becomes s ∧
      (let u := (s.setLink { s.link with fifo := s.link.fifo ++ [.gap], gapTimer := none }).drain
       t.link = u.link ∧ t.lines.rts = u.lines.rts)) ∧
  (∀ s : State, s.lines.rts = false ∨ s.link.gapTimer ≠ some 328 → exec .gapMark s = .next s) ∧
  (∀ s : State, s.lines.resetn = true →
    (s.link.rxLine = none → s.lineEvent .startBit = s.setLink { s.link with
      rxLine := some s.link.line
      gapTimer := if s.link.gapTimer = some 328 then some 328 else none }) ∧
    (s.link.rxLine ≠ none → s.lineEvent .startBit = s)) ∧
  (∀ s : State, (s.link.phase = .applying → s.drain = s) ∧ (s.link.fifo = [] → s.drain = s) ∧
    ∀ i rest, s.link.phase ≠ .applying → s.link.fifo = i :: rest →
      (completes s.link.assembler i = true → s.drain = s) ∧
      (completes s.link.assembler i = false →
        (let step := assemble s.link.assembler i
         s.drain = ((s.setLink { s.link with
           fifo := rest
           assembler := step.1
           counters := match step.2 with
             | some k => s.link.counters.count k
             | none => s.link.counters }).driveRts).drain))) ∧
  (∀ (bytes : List Byte) (d : Byte) (i : FifoItem),
    (assemble .hunting i = (if i = .byte 0xC3 false then .receiving [] else .hunting, none)) ∧
    assemble (.receiving bytes) .gap = (.hunting, some .timeout) ∧
    assemble (.receiving bytes) .overrun = (.hunting, some .overrun) ∧
    assemble (.receiving bytes) (.byte d true) = (.hunting, some .byteError) ∧
    assemble (.receiving []) (.byte d false) = (if 240 < d.toNat then (.hunting, some .badCheck) else (.receiving [d], none)) ∧
    (bytes ≠ [] → assemble (.receiving bytes) (.byte d false) = (.receiving (bytes ++ [d]), none)) ∧
    (completes (.receiving bytes) i = true ↔
      ∃ length rest e, bytes = length :: rest ∧ i = .byte e false ∧ (bytes ++ [e]).length = length.toNat + 5) ∧
    completes .hunting i = false) ∧
  (∀ s : State, s.driveRts = s.setLines { s.lines with
    rts := if s.link.settings.rxTrigger ≤ entryCount s.link.fifo ∨ 2 ≤ s.link.requests.length then false
      else if entryCount s.link.fifo ≤ 8 then true else s.lines.rts })

/-- REPLY_SENT: at the end of a reply's last byte the served frame leaves the queue; another frame waiting is taken at once, otherwise the
service is Idle and the assembler goes on; a pending line setting takes effect; RTS follows. A byte of the reply begins while CTS is
asserted: the rise of CTS begins the byte that waits, a byte begun is sent whole when CTS falls, and the byte after it waits. While a
byte waits, or while CTS is deasserted and the byte on TXD cannot be the last, the reply has not been sent and REPLY_SENT changes
nothing (log 28): a reply the spec lays out has its number of bytes, 7 or more, and any other 7 to 246. What the serial lines do comes before the next crystal tick (log 28). On TXD a reply's bytes go out in order under the
settings in force: a start bit low, 8 data bits with the least significant first, under parity even the bit that makes the ones even, a
stop bit high (log 52). Received so, a byte has no error mark. -/
def Obligations.ReplySentTakesTheNext : Prop :=
  (∀ (s : State) (r : Reply) (f : Frame) (rest : List Frame), s.lines.resetn = true → s.sends r → s.link.requests = f :: rest →
    s.link.txBegun = true → (s.lines.cts = true ∨
      ((∀ n, r.size = some n → s.link.txSent + 1 = n) ∧ (r.size = none → 7 ≤ s.link.txSent + 1 ∧ s.link.txSent + 1 ≤ 246))) →
    ∃ t, exec .replySent s = .next t ∧ t.core = s.core ∧ t.link.requests = rest ∧
      (rest = [] → t.link.phase = .idle) ∧ (rest ≠ [] → t.link.phase = .applying) ∧
      t.link.pendingLine = none ∧ t.link.line = s.link.pendingLine.getD s.link.line ∧ t.link.settings = s.link.settings ∧
      (let u := (s.setLink { s.link with
         requests := rest
         phase := if rest = [] then .idle else .applying
         line := s.link.pendingLine.getD s.link.line
         lineBefore := if s.link.pendingLine = none then s.link.lineBefore else s.link.line
         pendingLine := none
         txBegun := false
         txSent := 0 }).driveRts.drain
       t.link = u.link ∧ t.lines.rts = u.lines.rts)) ∧
  (∀ (s : State) (r : Reply), s.sends r →
    (s.link.txBegun = false → exec .replySent s = .next s) ∧
    (∀ n, r.size = some n → 7 ≤ n ∧ (s.lines.cts = false → s.link.txSent + 1 < n → exec .replySent s = .next s)) ∧
    (r.size = none → s.lines.cts = false → s.link.txSent + 1 < 7 → exec .replySent s = .next s) ∧
    s.txd = Reply.bits s.link.line r ∧
    s.lineEvent .ctsRise = (s.setLines { s.lines with cts := true }).setLink { s.link with txBegun := true } ∧
    (s.link.txBegun = true → (∀ n, r.size = some n → s.link.txSent + 1 < n) → (r.size = none → s.link.txSent + 1 < 246) →
      s.lineEvent .byteSent = s.setLink { s.link with txSent := s.link.txSent + 1, txBegun := s.lines.cts }) ∧
    (s.link.txBegun = false → s.lineEvent .byteSent = s)) ∧
  (∀ s : State, s.lineEvent .ctsFall = s.setLines { s.lines with cts := false } ∧ (s.lines.ahead = [] → s.takeLine = s) ∧
    ∀ now later, s.lines.ahead = now :: later →
      s.takeLine = now.foldl State.lineEvent (s.setLines { s.lines with ahead := later })) ∧
  (∀ (line : LineSettings) (data : Byte),
    (∃ p, ([0, 1, 2, 3, 4, 5, 6, 7].map data.getLsbD ++ [p]).count true % 2 = 0 ∧ byteBad line data p true = false ∧
      line.bits data = [false] ++ [0, 1, 2, 3, 4, 5, 6, 7].map data.getLsbD ++ (if line.parityEven then [p] else []) ++ [true]) ∧
    ∀ (r : Reply) (f : Frame), r.frame = some f → Reply.bits line r = some ((Frame.bytes f).flatMap line.bits))

/-- RESETN_LOW (log 10) ends all link activity and deasserts the output lines. RESETN_RELEASE leaves every block at its power-on values,
RTS asserted, the input levels (log 6) and the waiting commands as they stand; a fault line high at the release is taken as a rise, which
sets the tuner's latch and its change latch, asks for a pass and queues the TunerChange notice of the tuner in Unused, cause Fault, A before B
(log 53); ATTN is asserted by it. -/
def Obligations.ResetnRestartsThePart : Prop :=
  (∀ s : State, s.lines.resetn = true → ∃ t, exec .resetnLow s = .next t ∧ t.lines.resetn = false ∧ t.link = .reset ∧
    t.lines.rts = false ∧ t.lines.attn = false ∧ t.lines.wake = false ∧ t.lines.rec_ = false ∧ t.pending = s.pending) ∧
  (∀ s : State, s.lines.resetn = false →
    (let r := State.reset
     ∃ t, exec .resetnRelease s = .next t ∧ t.lines.inputs = (true, s.lines.cts, s.lines.lockA, s.lines.lockB, s.lines.faultA,
        s.lines.faultB, s.lines.ahead) ∧
      t.lines.rts = true ∧ t.lines.wake = false ∧ t.lines.rec_ = false ∧ t.pending = s.pending ∧
      t.time = r.time ∧ t.catalogue = r.catalogue ∧ t.guide = r.guide ∧ t.links = r.links ∧ t.book = r.book ∧ t.orders = r.orders ∧
      t.wake = r.wake ∧ t.storage = r.storage ∧ t.link = r.link ∧
      t.monitor = { r.monitor with
        a := { r.monitor.a with faultLatch := s.lines.faultA, changeLatch := s.lines.faultA }
        b := { r.monitor.b with faultLatch := s.lines.faultB, changeLatch := s.lines.faultB } } ∧
      (let tells := fun (x : TunerId) (high : Bool) =>
         if high = true then [(⟨.tunerChange x .unused true none .fault, 0⟩ : Notice)] else []
       t.notices = ⟨tells .a s.lines.faultA ++ tells .b s.lines.faultB, false⟩) ∧
      t.lines.attn = (s.lines.faultA || s.lines.faultB) ∧
      (s.lines.faultA = false → s.lines.faultB = false → t.planner = r.planner) ∧
      ((s.lines.faultA = true ∨ s.lines.faultB = true) → ∃ p, t.planner = { r.planner with running := some p } ∧ p.t0 = 0)))

/-! ## Requests in general (R204, R206 to R210, R213) -/

/-- A body of a length the kind does not allow, a GuideBatch by R214, is refused with BadLength; a coded field that is used and names none of
its choices with BadField; a kind code that names no request with UnknownKind; nothing changes. It holds for every request row. -/
def Obligations.WrongFramesAreRefused : Prop :=
  (∀ (i : Instr) (f : Frame) (s : State), i.wellFormed = true → frameOf i = some f → s.takes f → Config.kinds.contains f.kind = true →
    (lengthAllowed f.kind f.body = false →
      ∃ t, exec i s = .next t ∧ t.replies f .badLength .code ∧ t.unchanged s) ∧
    (lengthAllowed f.kind f.body = true → codedWrong f.kind f.body = true →
      ∃ t, exec i s = .next t ∧ t.replies f .badField .code ∧ t.unchanged s)) ∧
  (∀ (tag kind : Byte) (body : List Byte) (s : State), body.length ≤ 240 → Config.kinds.contains kind = false →
    s.takes ⟨tag, kind, body⟩ →
    ∃ t, exec (.unknownKind tag kind body) s = .next t ∧ t.replies ⟨tag, kind, body⟩ .unknownKind .code ∧ t.unchanged s)

/-- ECHO of 0 to 239 bytes is answered Ok with the same bytes after the result code; 240 bytes are refused with BadLength; nothing
changes. -/
def Obligations.EchoAnswers : Prop :=
  ∀ (tag : Byte) (body : List Byte) (s : State), body.length ≤ 240 → s.takes ⟨tag, 0x06, body⟩ →
    ∃ t, exec (.echo tag body) s = .next t ∧ t.unchanged s ∧ (s.link.fifo = [] → t.link.counters = s.link.counters) ∧
      (body.length ≤ 239 → t.sends ⟨tag, 0x86, .ok, .echo body⟩ ∧ Reply.body ⟨tag, 0x86, .ok, .echo body⟩ = some (0x00 :: body)) ∧
      (body.length = 240 → t.sends ⟨tag, 0x86, .badLength, .code⟩)

/-- IDENTIFY is answered Ok with the 16 bytes of R206, and changes nothing. LINK_STATS carries the five counters as they stand, 2 bytes each
in order, and sets all five to 0; what the assembler takes afterwards counts from there. The reply is sent from then on, its first byte
begun when CTS is asserted. -/
def Obligations.IdentifyAndLinkStatsAnswer : Prop :=
  (∀ (tag : Byte) (s : State), s.takes ⟨tag, 0x01, []⟩ →
    ∃ t, exec (.identify tag []) s = .next t ∧ t.replies ⟨tag, 0x01, []⟩ .ok .identify ∧ t.unchanged s ∧
      t.link.txBegun = s.lines.cts ∧ t.link.txSent = 0 ∧
      Reply.body ⟨tag, 0x81, .ok, .identify⟩ =
        some [0x00, 0x0D, 0x71, 0x27, 0x40, 0x41, 128, 48, 0x10, 0x00, 0x02, 0x00, 128, 48, 3, 2]) ∧
  (∀ (tag : Byte) (s : State), s.takes ⟨tag, 0x05, []⟩ →
    ∃ t, exec (.linkStats tag []) s = .next t ∧ t.sends ⟨tag, 0x85, .ok, .counters s.link.counters⟩ ∧ t.core = s.core ∧
      t.planner = s.planner ∧ (s.link.fifo = [] → t.link.counters = ⟨0, 0, 0, 0, 0⟩) ∧
      (let served := s.taken ⟨tag, 0x05, []⟩
       let u := ((served.setLink { served.link with counters := ⟨0, 0, 0, 0, 0⟩ }).send
         ⟨tag, 0x85, .ok, .counters s.link.counters⟩).drain
       t.link = u.link ∧ t.lines.rts = u.lines.rts) ∧
      Reply.body ⟨tag, 0x85, .ok, .counters s.link.counters⟩ =
        some (0x00 :: (be16 s.link.counters.badCheck ++ be16 s.link.counters.byteError ++ be16 s.link.counters.timeout ++
          be16 s.link.counters.overrun ++ be16 s.link.counters.queueFull)))

/-- GET_SETTING answers Ok with the item code and the stored value in 4 bytes, pending or not; a code without an item is refused with
BadField; nothing changes. The items of the codes 1 to 21 read their setting: a coded choice as its code, the marks of NoticeMask as one
number; no other code has an item. -/
def Obligations.GetSettingAnswers : Prop :=
  (∀ v : Settings, ((List.range 21).map fun i => (Config.itemOf (i + 1)).map v.read) =
    [v.linkRate, v.parityEven.toNat, v.rxTrigger, v.prePadDefault, v.postPadDefault, v.purgeAge,
      if v.feedMode = .loopThrough then 1 else 0, v.liveRank, v.orderTimeout, v.runHold, v.accurateSlack, v.lossExtended.toNat,
      v.gapLimit, v.wakeOff.toNat, v.wakeLead, v.wakeTimeout, v.spaceFloor, v.spaceHorizon, v.spaceAlarm.toNat, v.defaultRate,
      v.noticeMask.toNat].map some) ∧ (∀ code, Config.itemOf code = none ↔ code = 0 ∨ 21 < code) ∧
  ∀ (tag code : Byte) (s : State), s.takes ⟨tag, 0x04, [code]⟩ →
    ∃ t, exec (.getSetting tag [code]) s = .next t ∧ t.unchanged s ∧ (s.link.fifo = [] → t.link.counters = s.link.counters) ∧
      (∀ item, Config.itemOf code.toNat = some item →
        t.sends ⟨tag, 0x84, .ok, .setting code.toNat (s.link.settings.read item)⟩ ∧
          Reply.body ⟨tag, 0x84, .ok, .setting code.toNat (s.link.settings.read item)⟩ =
            some (0x00 :: code :: be32 (s.link.settings.read item))) ∧
      (Config.itemOf code.toNat = none → t.sends ⟨tag, 0x84, .badField, .code⟩)

/-- The settings table's ranges: a whole-number item is brought to the least or the greatest; LinkRate and RxTrigger to the nearest
permitted value, the lower when midway; a coded choice to the highest code; NoticeMask keeps its seven marks. -/
def Obligations.ValuesAreBroughtIn : Prop :=
  ∀ n : Nat,
    (∀ x ∈ ([(.prePadDefault, 0, 3600), (.postPadDefault, 0, 7200), (.purgeAge, 1, 168), (.liveRank, 0, 16), (.orderTimeout, 5, 120),
        (.runHold, 1, 30), (.accurateSlack, 0, 7200), (.gapLimit, 30, 1800), (.wakeLead, 60, 1800), (.wakeTimeout, 30, 600),
        (.spaceFloor, 0, 65535), (.spaceHorizon, 1, 14), (.defaultRate, 500, 40000)] : List (Config.Item × Nat × Nat)),
      bringIn n x.1 = if n < x.2.1 then x.2.1 else if x.2.2 < n then x.2.2 else n) ∧
    (∀ x ∈ ([(.linkRate, [57600, 115200, 230400, 460800]), (.rxTrigger, [16, 32, 48, 56])] : List (Config.Item × List Nat)),
      bringIn n x.1 ∈ x.2 ∧ ∀ m ∈ x.2, ((n : Int) - bringIn n x.1).natAbs ≤ ((n : Int) - m).natAbs ∧
        (((n : Int) - bringIn n x.1).natAbs = ((n : Int) - m).natAbs → bringIn n x.1 ≤ m)) ∧
    (∀ x ∈ ([.linkParity, .feedMode, .lossHold, .wakeMode, .spaceAlarm] : List Config.Item), bringIn n x = if 1 < n then 1 else n) ∧
    bringIn n .noticeMask = n % 128

/-- SetSetting of every item, SET_LINK_RATE to SET_NOTICE_MASK and, for the four items without a row of their own, SET_SETTING: the
value brought into range is stored, so that the item reads as it and every other item as before, and the reply carries the item code and
the stored value, Clamped when it was adjusted. The value in force given again changes nothing. A code without an item is refused with
BadField. -/
def Obligations.SettingsAreStored : Prop :=
  (∀ (item : Config.Item) (tag : Byte) (v : Nat) (s : State), v ≤ maxU32 →
    s.takes ⟨tag, 0x03, BitVec.ofNat 8 item.code :: be32 v⟩ →
    ∃ t, exec (settingInstr tag (BitVec.ofNat 8 item.code :: be32 v)) s = .next t ∧
      t.link.settings = s.link.settings.write (bringIn v item) item ∧
      t.link.settings.read item = bringIn v item ∧ (∀ x, x ≠ item → t.link.settings.read x = s.link.settings.read x) ∧
      t.answers ⟨tag, 0x03, BitVec.ofNat 8 item.code :: be32 v⟩ (if bringIn v item = v then .ok else .clamped)
        (.setting item.code (bringIn v item)) ∧
      (bringIn v item = s.link.settings.read item → t.unchanged s)) ∧
  (∀ (tag code : Byte) (v : Nat) (s : State), v ≤ maxU32 → Config.itemOf code.toNat = none → s.takes ⟨tag, 0x03, code :: be32 v⟩ →
    ∃ t, exec (.setSetting tag (code :: be32 v)) s = .next t ∧ t.replies ⟨tag, 0x03, code :: be32 v⟩ .badField .code ∧ t.unchanged s)

/-- What a new value does at once: a LinkRate or LinkParity waits for the end of the reply; an RxTrigger sets RTS again; a new PurgeAge,
AccurateSlack, RunHold, LossHold or WakeTimeout acts on what it has already passed; a FeedMode or LiveRank asks for a pass that the reply
waits for, the first pass that includes it; WakeLead and WakeMode Auto have the due instant evaluated, WakeMode Off ends a sleep;
SpaceFloor, SpaceHorizon, DefaultRate and SpaceAlarm on have the storage evaluated, SpaceAlarm off clears SpaceLow; NoticeMask removes the
notices of disabled classes and keeps the order of the others. The loss counts that a new LossHold completes are told with cause Loss, tuner
A's first (log 53, the model's choice), and the latch of tuner B that a new FeedMode sets with cause Fault. An attempt whose count a new WakeTimeout brings to its length completes at
once (log 26); bookings that a new RunHold or AccurateSlack acts on are taken in ascending handle (log 39), and Starved links are retried after
a removal by age (R76). -/
def Obligations.NewSettingsAct : Prop :=
  ∀ (tag : Byte) (v : Nat) (s : State), v ≤ maxU32 →
    (let stored := fun (item : Config.Item) => s.setLink { s.link with settings := s.link.settings.write (bringIn v item) item }
    (s.takes ⟨tag, 0x03, 1 :: be32 v⟩ → bringIn v .linkRate ≠ s.link.settings.linkRate →
      ∃ t, exec (.setLinkRate tag (1 :: be32 v)) s = .next t ∧ t.core = s.core ∧
      t.link.line = s.link.line ∧ t.link.pendingLine = some ⟨bringIn v .linkRate, s.link.settings.parityEven⟩) ∧
    (s.takes ⟨tag, 0x03, 2 :: be32 v⟩ → (bringIn v .linkParity == 1) ≠ s.link.settings.parityEven →
      ∃ t, exec (.setLinkParity tag (2 :: be32 v)) s = .next t ∧
      t.core = s.core ∧ t.link.line = s.link.line ∧
      t.link.pendingLine = some ⟨s.link.settings.linkRate, bringIn v .linkParity == 1⟩) ∧
    (s.takes ⟨tag, 0x03, 3 :: be32 v⟩ → bringIn v .rxTrigger ≠ s.link.settings.rxTrigger →
      ∃ t, exec (.setRxTrigger tag (3 :: be32 v)) s = .next t ∧ t.core = s.core ∧ t.planner = s.planner ∧
      (let served := s.taken ⟨tag, 0x03, 3 :: be32 v⟩
       let u := (((served.setLink { served.link with
         settings := served.link.settings.write (bringIn v .rxTrigger) .rxTrigger }).driveRts).send
           ⟨tag, 0x83, if bringIn v .rxTrigger = v then .ok else .clamped, .setting 3 (bringIn v .rxTrigger)⟩).drain
       t.link = u.link ∧ t.lines.rts = u.lines.rts)) ∧
    (s.takes ⟨tag, 0x03, 6 :: be32 v⟩ → bringIn v .purgeAge ≠ s.link.settings.purgeAge →
      ∃ t, exec (.setPurgeAge tag (6 :: be32 v)) s = .next t ∧
      (let old := fun (b : Booking) => s.time.clockSet && b.state == .finished && (match b.finishedAt with
         | some at_ => decide (at_ + bringIn v .purgeAge * 3600 ≤ s.time.seconds)
         | none => false)
       let removed := (stored .purgeAge).setBook { s.book with records := s.book.records.filter fun b => !old b }
       ((∃ b ∈ s.book.records, old b = true) → t.core = removed.retryStarved.core ∧
         (removed.retryStarved.planner.triggered = true → t.passComes)) ∧
       ((∀ b ∈ s.book.records, old b = false) → t.core = s.core ∧ t.planner = s.planner) ∧
       ((∀ l ∈ s.links, l.starved = false) → t.core = removed.core ∧ t.planner = s.planner))) ∧
    (s.takes ⟨tag, 0x03, 7 :: be32 v⟩ → bringIn v .feedMode = 1 → s.link.settings.feedMode = .independent →
      ∃ t, exec (.setFeedMode tag (7 :: be32 v)) s = .next t ∧
      t.link.settings.feedMode = .loopThrough ∧
      t.awaits (.done (if v = 1 then .ok else .clamped) (.setting 7 1)) ∧
      t.monitor.b.faultLatch = (s.monitor.b.faultLatch || s.lines.faultA) ∧ t.monitor.a = s.monitor.a ∧
      (s.monitor.b.faultLatch = false → s.lines.faultA = true → t.monitor.b.changeLatch = true ∧
        t.monitor.b.condition = (if s.monitor.b.condition = .unused then .unused else .faulted) ∧
        t.notices = s.tellChange .b t.monitor.b .fault s.notices)) ∧
    (s.takes ⟨tag, 0x03, 7 :: be32 v⟩ → bringIn v .feedMode = 0 → s.link.settings.feedMode = .loopThrough →
      ∃ t, exec (.setFeedMode tag (7 :: be32 v)) s = .next t ∧ t.link.settings.feedMode = .independent ∧ t.core = s.core ∧
      t.awaits (.done .ok (.setting 7 0))) ∧
    (s.takes ⟨tag, 0x03, 8 :: be32 v⟩ → bringIn v .liveRank ≠ s.link.settings.liveRank →
      ∃ t, exec (.setLiveRank tag (8 :: be32 v)) s = .next t ∧ t.core = s.core ∧
      t.link.phase = .holding (if s.planner.running.isSome then 2 else 1)
        (.done (if bringIn v .liveRank = v then .ok else .clamped) (.setting 8 (bringIn v .liveRank))) ∧ t.passComes) ∧
    (s.takes ⟨tag, 0x03, 10 :: be32 v⟩ → bringIn v .runHold ≠ s.link.settings.runHold → s.tablesHold →
      ∃ t, exec (.setRunHold tag (10 :: be32 v)) s = .next t ∧
      t.core = ((s.book.records.map (·.handle)).foldl State.runHoldRule (stored .runHold)).core ∧
      ∀ b c, s.booking? b.handle = some b → b.items.candidate = some c → c.taken = false → bringIn v .runHold ≤ c.held.seconds →
        (b.state = .recording → c.status = .notRunning → b.items.runningAt ≠ none → t.stopsAmong s b .schedule) ∧
        (∀ x a e, b.state = .armed → c.status = .running → b.placement = .placed x a e → s.time.seconds < e →
          t.ordered s b.handle .start (some x) 1 true ∧ ∃ y, t.booking? b.handle = some y ∧ y.state = .due ∧ y.placement = b.placement ∧ t.tells y) ∧
        ((b.state = .due ∨ c.status = .startsSoon ∨ c.status = .paused) →
          ∃ x, t.booking? b.handle = some x ∧ x.state = b.state ∧ x.placement = b.placement ∧
            x.items.candidate = some { c with taken := true })) ∧
    (s.takes ⟨tag, 0x03, 11 :: be32 v⟩ → bringIn v .accurateSlack ≠ s.link.settings.accurateSlack → s.tablesHold →
      ∃ t, exec (.setAccurateSlack tag (11 :: be32 v)) s = .next t ∧
      t.core = ((s.book.records.map (·.handle)).foldl State.slackRule (stored .accurateSlack)).core ∧
      ∀ b, s.booking? b.handle = some b → s.time.clockSet = true → b.nominalStop + bringIn v .accurateSlack ≤ s.time.seconds →
        (b.state = .armed → t.finishedAmong s b ⟨.missed, .neverRan⟩) ∧
        (b.state = .recording → b.accurate = true → b.flags.timedFallback = false → b.items.runningAt ≠ none →
          t.stopsAmong s b .slack)) ∧
    (s.takes ⟨tag, 0x03, 12 :: be32 v⟩ → (bringIn v .lossHold == 1) ≠ s.link.settings.lossExtended →
      ∃ t, exec (.setLossHold tag (12 :: be32 v)) s = .next t ∧ t.planner = s.planner ∧
      (let lost := fun x => (let u := s.tuner x
         (u.condition = .locked ∨ (u.condition = .tuning ∧ u.grace = none)) ∧ s.lockLine x = false ∧
           ∃ n, u.loss = some n ∧ (if bringIn v .lossHold = 1 then 10 else 2) ≤ n.seconds)
       let told := fun x q => s.tellChange x (t.tuner x) .loss q
       (∀ x, (lost x → t.tuner x = ⟨.lost, (s.tuner x).faultLatch, true, (s.tuner x).tuned, none, none, none⟩) ∧
         (¬ lost x → t.tuner x = s.tuner x)) ∧
       (lost .a → lost .b → t.notices = told .b (told .a s.notices)) ∧ (lost .a → ¬ lost .b → t.notices = told .a s.notices) ∧
       (¬ lost .a → lost .b → t.notices = told .b s.notices) ∧ (¬ lost .a → ¬ lost .b → t.notices = s.notices))) ∧
    (s.takes ⟨tag, 0x03, 14 :: be32 v⟩ → bringIn v .wakeMode = 1 → s.link.settings.wakeOff = false →
      ∃ t, exec (.setWakeMode tag (14 :: be32 v)) s = .next t ∧
      t.link.settings.wakeOff = true ∧ (s.wake.host = .up → t.wake = s.wake) ∧
      (s.wake.host ≠ .up → t.wake.host = .down ∧ t.wake.attempt = none ∧ t.wake.pause = none ∧ t.wake.due = none ∧
        t.wake.wakeAt = none ∧ t.wake.abandon = [] ∧ t.wake.failed = s.wake.failed ∧ t.lines.wake = false)) ∧
    (s.takes ⟨tag, 0x03, 14 :: be32 v⟩ → bringIn v .wakeMode = 0 → s.link.settings.wakeOff = true →
      ∃ t, exec (.setWakeMode tag (14 :: be32 v)) s = .next t ∧ t.planner = s.planner ∧
      (s.wake.host = .down → t.core = (stored .wakeMode).evaluateWake.core) ∧ (s.wake.host ≠ .down → t.core = s.core)) ∧
    (s.takes ⟨tag, 0x03, 15 :: be32 v⟩ → bringIn v .wakeLead ≠ s.link.settings.wakeLead →
      ∃ t, exec (.setWakeLead tag (15 :: be32 v)) s = .next t ∧ t.planner = s.planner ∧
      t.core = (stored .wakeLead).evaluateWake.core) ∧
    (s.takes ⟨tag, 0x03, 16 :: be32 v⟩ → bringIn v .wakeTimeout ≠ s.link.settings.wakeTimeout →
      ∃ t, exec (.setWakeTimeout tag (16 :: be32 v)) s = .next t ∧ t.planner = s.planner ∧
      (let done := (s.wake.host = .waking1 ∨ s.wake.host = .waking2) ∧ ∃ n, s.wake.attempt = some n ∧ bringIn v .wakeTimeout ≤ n.seconds
       (done → t.wake.failed = min (s.wake.failed + 1) 255 ∧ (s.wake.host = .waking1 → t.wake.host = .pausing1 ∧ t.wake.pause = some 0) ∧
         (s.wake.host = .waking2 → t.wake.host = .abandoned ∨ t.wake.host = .waking1)) ∧
       (¬ done → t.core = s.core))) ∧
    (s.takes ⟨tag, 0x03, 17 :: be32 v⟩ → bringIn v .spaceFloor ≠ s.link.settings.spaceFloor →
      ∃ t, exec (.setSpaceFloor tag (17 :: be32 v)) s = .next t ∧ t.planner = s.planner ∧
      t.core = (stored .spaceFloor).evaluateStorage.core) ∧
    (s.takes ⟨tag, 0x03, 18 :: be32 v⟩ → bringIn v .spaceHorizon ≠ s.link.settings.spaceHorizon →
      ∃ t, exec (.setSpaceHorizon tag (18 :: be32 v)) s = .next t ∧ t.planner = s.planner ∧
      t.core = (stored .spaceHorizon).evaluateStorage.core) ∧
    (s.takes ⟨tag, 0x03, 19 :: be32 v⟩ → bringIn v .spaceAlarm = 0 → s.link.settings.spaceAlarm = true →
      ∃ t, exec (.setSpaceAlarm tag (19 :: be32 v)) s = .next t ∧
      t.core = (s.setStorage { s.storage with low := false }).core) ∧
    (s.takes ⟨tag, 0x03, 19 :: be32 v⟩ → bringIn v .spaceAlarm = 1 → s.link.settings.spaceAlarm = false →
      ∃ t, exec (.setSpaceAlarm tag (19 :: be32 v)) s = .next t ∧ t.planner = s.planner ∧
      t.core = (stored .spaceAlarm).evaluateStorage.core) ∧
    (s.takes ⟨tag, 0x03, 20 :: be32 v⟩ → bringIn v .defaultRate ≠ s.link.settings.defaultRate →
      ∃ t, exec (.setDefaultRate tag (20 :: be32 v)) s = .next t ∧ t.planner = s.planner ∧
      t.core = (stored .defaultRate).evaluateStorage.core) ∧
    (s.takes ⟨tag, 0x03, 21 :: be32 v⟩ → bringIn v .noticeMask ≠ s.link.settings.noticeMask.toNat →
      ∃ t, exec (.setNoticeMask tag (21 :: be32 v)) s = .next t ∧
      t.core = (s.setNotices { s.notices with queue := s.notices.queue.filter fun n =>
        (BitVec.ofNat 7 (bringIn v .noticeMask)).getLsbD n.body.cls.bit }).core ∧ t.planner = s.planner))

/-- Offering a notice (R186 to R188): a masked class leaves the queue; a second BookingState of a booking takes the place of the first;
a ClashCleared cancels a queued ClashFound of its booking and the other way round; a second ClashFound, and a second ClashCleared, of a
booking takes the place of the first, while none of the other kind stands (R188 queues no two of them together). A notice of another kind
never coalesces. Any notice that does not coalesce goes to the end while fewer than 48 stand, and with 48 it is lost and the lost flag set. -/
def Obligations.NoticesAreOffered : Prop :=
  ∀ (mask : BitVec 7) (n : Notice) (q : NoticeQueue),
    (let added := if q.queue.length < 48 then ⟨q.queue ++ [n], q.lost⟩ else (⟨q.queue, true⟩ : NoticeQueue)
     (mask.getLsbD n.body.cls.bit = false → offerTo mask n q = q) ∧
     (mask.getLsbD n.body.cls.bit = true →
       (∀ h r, n.body = .bookingState h r →
         ((∃ x ∈ q.queue, x.body.stateOf = some h) →
           offerTo mask n q = ⟨q.queue.map fun x => if x.body.stateOf = some h then n else x, q.lost⟩) ∧
         ((∀ x ∈ q.queue, x.body.stateOf ≠ some h) → offerTo mask n q = added)) ∧
       (∀ h c, n.body = .clashFound h c →
         ((∃ x ∈ q.queue, x.body.clearedOf = some h) →
           offerTo mask n q = ⟨q.queue.filter fun x => x.body.clearedOf ≠ some h, q.lost⟩) ∧
         ((∀ x ∈ q.queue, x.body.clearedOf ≠ some h) → (∃ x ∈ q.queue, x.body.foundOf = some h) →
           offerTo mask n q = ⟨q.queue.map fun x => if x.body.foundOf = some h then n else x, q.lost⟩) ∧
         ((∀ x ∈ q.queue, x.body.clearedOf ≠ some h ∧ x.body.foundOf ≠ some h) → offerTo mask n q = added)) ∧
       (∀ h x a e, n.body = .clashCleared h x a e →
         ((∃ y ∈ q.queue, y.body.foundOf = some h) →
           offerTo mask n q = ⟨q.queue.filter fun y => y.body.foundOf ≠ some h, q.lost⟩) ∧
         ((∀ y ∈ q.queue, y.body.foundOf ≠ some h) → (∃ y ∈ q.queue, y.body.clearedOf = some h) →
           offerTo mask n q = ⟨q.queue.map fun y => if y.body.clearedOf = some h then n else y, q.lost⟩) ∧
         ((∀ y ∈ q.queue, y.body.foundOf ≠ some h ∧ y.body.clearedOf ≠ some h) → offerTo mask n q = added)) ∧
       ((∀ h, n.body.stateOf ≠ some h ∧ n.body.foundOf ≠ some h ∧ n.body.clearedOf ≠ some h) → offerTo mask n q = added)))

/-! ## The clock (R2 to R17) -/

/-- TIME_REPORT steps when the clock is unset or the offset is two seconds or more: S is B, the sub-second count starts a new second with
no slew, the capture is (B, 0, 0), T stands, a held change due at the new S is taken, the last local date is that of the new S, and the
reply, with the offset measured and the old S, waits for the pass that includes the step. The step is announced: Pending bookings whose
padded end it passed finish Missed (ClockStep), in ascending handle (log 39). A forward step, the first one among them (log 15), sets the
step hold, stops Recording bookings past their effective end or their AccurateSlack end, finishes Armed ones past that end and Due ones
past their padded end with the Start undelivered; a backward step, the first one included (log 15), makes none of these changes. Then the
slot links are instantiated, once, with the retiming of R80 when the step took a held change (log 55), and the due instant is evaluated. A ClockStepped
notice is queued. Instants the step put ahead again can be reached again (log 20). Catalogue, guide and settings stay. -/
def Obligations.TimeReportSteps : Prop :=
  ∀ (tag : Byte) (body : List Byte) (b : Nat) (s : State), parseTimeReport body = .ok b → s.takes ⟨tag, 0x10, body⟩ →
    (s.time.clockSet = false ∨ 65536 ≤ (((s.time.seconds : Int) - b) * 32768 + s.time.sub).natAbs) →
    ∃ t, exec (.timeReport tag body) s = .next t ∧
      t.time.seconds = b ∧ t.time.clockSet = true ∧ t.time.slew = 0 ∧ t.time.trim = s.time.trim ∧ t.time.capture = some ⟨b, 0, 0⟩ ∧
      t.time.sub = (if b % 32 = 0 then s.time.trim else 0).toNat ∧ t.time.hold = (-(if b % 32 = 0 then s.time.trim else 0)).toNat ∧
      (∀ n, s.time.nextChange = some n → n.at_ ≤ b → t.time.zone = n.offset ∧ t.time.nextChange = none) ∧
      ((∀ n, s.time.nextChange = some n → b < n.at_) → t.time.zone = s.time.zone ∧ t.time.nextChange = s.time.nextChange) ∧
      t.time.lastDate = some (((b : Int) + 60 * t.time.zone) / 86400) ∧
      t.link.phase = .holding (if s.planner.running.isSome then 2 else 1) (.done .ok (.time .stepped
        (max (-2147483648) (min 2147483647 (((s.time.seconds : Int) - b) * 32768 + s.time.sub))) b s.time.trim 0 false
        (some s.time.seconds))) ∧
      t.passComes ∧ t.catalogue = s.catalogue ∧ t.guide = s.guide ∧ t.link.settings = s.link.settings ∧
      (s.time.seconds ≤ b → t.orders.stepHold = some (if s.planner.running.isSome then 2 else 1)) ∧
      (b < s.time.seconds → t.orders.stepHold = s.orders.stepHold) ∧
      (s.link.settings.noticeMask.getLsbD 5 = true → s.notices.queue.length < 48 →
        ⟨.clockStepped s.time.seconds b, b⟩ ∈ t.notices.queue) ∧
      (s.tablesHold → ∀ x, s.booking? x.handle = some x →
        (x.state = .pending → min (x.nominalStop + x.postPad) maxU32 ≤ b →
          t.finishedAmong (s.setTime t.time) x ⟨.missed, .clockStep⟩) ∧
        (s.time.seconds ≤ b →
          (∀ y a e, x.state = .recording → x.placement = .placed y a e → e ≤ b → t.stopsAmong (s.setTime t.time) x .schedule) ∧
          (∀ y a e, x.state = .recording → x.placement = .placed y a e → b < e → x.accurate = true → x.flags.timedFallback = false →
            x.items.runningAt ≠ none → x.nominalStop + s.link.settings.accurateSlack ≤ b →
            t.stopsAmong (s.setTime t.time) x .slack) ∧
          (x.state = .armed → x.nominalStop + s.link.settings.accurateSlack ≤ b →
            t.finishedAmong (s.setTime t.time) x ⟨.missed, .neverRan⟩) ∧
          (∀ o, x.state = .due → s.orderOf x.handle = some o → o.kind = .start → o.delivered = false →
            min (x.nominalStop + x.postPad) maxU32 ≤ b → t.finishedAmong (s.setTime t.time) x ⟨.missed, .hostAbsent⟩)) ∧
        (b < s.time.seconds → x.state ≠ .pending →
          ∃ y, t.booking? x.handle = some y ∧ y.state = x.state ∧ y.placement = x.placement ∧
            y.actualStart = x.actualStart ∧ y.items.candidate = x.items.candidate ∧ y.items.overrun = x.items.overrun ∧
            y.items.endTaken = (x.items.endTaken.filter fun e => decide (e ≤ b)) ∧
            (∀ o, s.orderOf x.handle = some o → o.kind ≠ .move → t.orderOf x.handle = some o))) ∧
      (let stepped := (((s.setTime (s.time.step b)).offer (.clockStepped s.time.seconds b))).forgetReached
       let due := stepped.nextChangeDue
       let zoned := if due then stepped.takeNextChange else stepped
       t.core = ((((zoned.trigger.bookingStep).orderStep s.time.seconds).instantiateAll due).evaluateWake).core)

/-- TIME_REPORT slews when the clock is set and the offset is below two seconds: C is minus the offset, S and the sub-second count
stand; with B at least 3600 s after B₀ the trim takes the drift estimate and the capture starts again. Nothing else changes. -/
def Obligations.TimeReportSlews : Prop :=
  ∀ (tag : Byte) (body : List Byte) (b : Nat) (s : State), parseTimeReport body = .ok b → s.takes ⟨tag, 0x10, body⟩ →
    s.time.clockSet = true → (((s.time.seconds : Int) - b) * 32768 + s.time.sub).natAbs < 65536 →
    ∃ t, exec (.timeReport tag body) s = .next t ∧ t.planner = s.planner ∧
      (let offset := ((s.time.seconds : Int) - b) * 32768 + s.time.sub
       (∀ k, s.time.capture = some k → k.b0 + 3600 ≤ b →
          t.becomes (s.setTime { s.time with
            slew := -offset
            capture := some ⟨b, offset, 0⟩
            trim := max (-255) (min 255 (s.time.trim - roundAway (((offset - k.applied) - k.offset0) * 32) (b - k.b0))) }) ∧
          t.sends ⟨tag, 0x90, .ok, .time .slewedWithDrift offset s.time.seconds t.time.trim (-offset)
            (t.time.trim != s.time.trim - roundAway (((offset - k.applied) - k.offset0) * 32) (b - k.b0)) none⟩) ∧
       ((∀ k, s.time.capture = some k → b < k.b0 + 3600) →
          t.becomes (s.setTime { s.time with slew := -offset }) ∧
          t.sends ⟨tag, 0x90, .ok, .time .slewed offset s.time.seconds s.time.trim (-offset) false none⟩))

/-- QUERY_TIME answers Ok with S and the sub-second count, T and C, whether the clock is set, the zone offset and the held next change,
all as they stand when it is taken, and changes nothing. -/
def Obligations.QueryTimeAnswers : Prop :=
  ∀ (tag : Byte) (s : State), s.takes ⟨tag, 0x12, []⟩ →
    ∃ t, exec (.queryTime tag []) s = .next t ∧ t.unchanged s ∧
      t.sends ⟨tag, 0x92, .ok, .clock s.time.seconds s.time.sub s.time.trim s.time.slew s.time.clockSet s.time.zone s.time.nextChange⟩

/-- CRYSTAL_TICK holds or advances the sub-second count, and at 32767 ends the second; SECOND_END ends the second (log 8): S goes up by
one and holds at the top, C gives up its slew term and A takes it, the new second starts from its adjustment, and one elapsed second is
marked: in the candidate holds, gap seconds of the unfinished bookings in a gap, failover counts of the Recording ones among
them (for one not Recording, in a gap begun by Restart, the count stands: log 63, the model's choice), the timeouts of the orders, the
grace, loss and regain counts of both tuners, and the attempt and pause counts. A count stands at a bound until the command of its completion (log 30): its
length, grace 10, regain 1, pause 2 seconds; 120 for an order's timeout, whatever OrderTimeout is; 65535 for gap seconds. The hold, loss
and attempt counts stand at RunHold, the LossHold length and WakeTimeout as the mark finds them, and a mark that finds one there completes
it, whatever the setting becomes before the command.
The receive gap timer counts the tick, or all the ticks left of the second, to 328 and only while RTS is asserted; CRYSTAL_TICK first
takes what the serial lines did (log 28), and no pass starts.
A second begun with T from −255 to 255 lasts 32768 ticks less its trim term, T in the first second of each 32, and its slew term. -/
def Obligations.SecondsAreCounted : Prop :=
  (∀ t : TimeBase, -255 ≤ t.trim → t.trim ≤ 255 →
    ((t.beginSecond.ticksLeft : Int) =
      32768 - ((if t.seconds % 32 = 0 then t.trim else 0) +
        (if 64 ≤ t.slew then 64 else if t.slew ≤ -64 then -64 else t.slew)))) ∧
  ∀ s : State, s.lines.resetn = true →
    (let c := slewTerm s.time.slew
     let next := min (s.time.seconds + 1) maxU32
     let a := (if next % 32 = 0 then s.time.trim else 0) + c
     let ended : TimeBase := { s.time with
       seconds := next, sub := a.toNat, hold := (-a).toNat, slew := s.time.slew - c
       capture := s.time.capture.map fun k => { k with applied := max (-2147483647) (min 2147483647 (k.applied + c)) } }
     let up := fun (bound n : Nat) => if n < bound then n + 1 else n
     let set := fun (length : Nat) (c : Count) =>
       (⟨up length c.seconds, c.complete || decide (length ≤ up length c.seconds)⟩ : Count)
     let marked := fun (b : Booking) => if b.state = .finished then b else { b with
       gapSeconds := if b.items.inGap = true then min (b.gapSeconds + 1) 65535 else b.gapSeconds
       items := { b.items with
         candidate := b.items.candidate.map fun k => { k with held := set s.link.settings.runHold k.held }
         failover := if b.items.inGap = true ∧ b.state = .recording then b.items.failover - 1 else b.items.failover } }
     let counted := fun (u : Tuner) => { u with
       grace := u.grace.map (up 10), loss := u.loss.map (set (if s.link.settings.lossExtended = true then 10 else 2))
       regain := u.regain.map (up 1) }
     let second := (((((s.setTime ended).setBook { s.book with records := s.book.records.map marked }).setOrders { s.orders with
       orders := s.orders.orders.map fun o => { o with elapsed := up 120 o.elapsed } }).setMonitor { s.monitor with
       a := counted s.monitor.a, b := counted s.monitor.b }).setWake { s.wake with
       attempt := s.wake.attempt.map (set s.link.settings.wakeTimeout), pause := s.wake.pause.map (up 2) })
     let gap := fun (u : State) (ticks : Nat) => (u.setLink { u.link with
       gapTimer := if u.lines.rts = true then u.link.gapTimer.map fun n => min (n + ticks) 328 else u.link.gapTimer }).drain
     (∃ t, exec .secondEnd s = .next t ∧ t.core = second.core ∧ (s.planner.triggered = false → t.planner = s.planner) ∧
        t.link = (gap s (s.time.hold + (32767 - s.time.sub) + 1)).link ∧
        t.lines.rts = (gap s (s.time.hold + (32767 - s.time.sub) + 1)).lines.rts) ∧
     (∃ t, exec .crystalTick s = .next t ∧ (s.planner.triggered = false → t.planner = s.planner) ∧
        t.link = (gap s.takeLine 1).link ∧ t.lines.rts = (gap s.takeLine 1).lines.rts ∧
        t.lines.inputs = s.takeLine.lines.inputs ∧ t.pending = s.pending ∧
        (0 < s.time.hold → t.core = (s.setTime { s.time with hold := s.time.hold - 1 }).core) ∧
        (s.time.hold = 0 → s.time.sub ≠ 32767 → t.core = (s.setTime { s.time with sub := s.time.sub + 1 }).core) ∧
        (s.time.hold = 0 → s.time.sub = 32767 → t.core = second.core)))

/-- ZONE_REPORT stores the rounded and clamped offsets, Ok or Clamped; with the clock set and X reached, the next offset is in force at
once and no change is held. NEXT_CHANGE_TAKEN does the same when S reaches X. An offset that differs from the one in force is told by a
ZoneChanged notice, Report or Scheduled, and a report or change that alters anything has every slot link instantiated again with the
retiming of R80: a Pending booking of an occurrence entry whose start lies ahead takes the window that its day and minute now give, when
that lies ahead and within range (log 35). A report that takes a
change at once is announced once, after the taking (log 46). A local day that the change brings forward starts by the LOCAL_DAY_START command that follows
(log 1). Local day and minute become UTC by R78. -/
def Obligations.ZoneChangesAreTaken : Prop :=
  (∀ (tag : Byte) (body : List Byte) (z : ZoneFields) (s : State), parseZoneReport body = .ok z → s.takes ⟨tag, 0x11, body⟩ →
    ∃ t, exec (.zoneReport tag body) s = .next t ∧
      (let next : Option NextChange := z.next.map fun n => ⟨n.1, roundZone n.2⟩
       let tell := fun (old new : Int) (cause : ZoneCause) (q : NoticeQueue) =>
         if old = new then q else offerTo s.link.settings.noticeMask ⟨.zoneChanged old new cause, s.time.seconds⟩ q
       let reported := tell s.time.zone (roundZone z.offset) .report s.notices
       (∀ n, next = some n → s.time.clockSet = true → n.at_ ≤ s.time.seconds →
          t.time = { s.time with zone := n.offset, nextChange := none } ∧
          t.core = (((s.setTime t.time).setNotices (tell (roundZone z.offset) n.offset .scheduled reported)).instantiateAll true).core) ∧
       ((∀ n, next = some n → s.time.clockSet = false ∨ s.time.seconds < n.at_) →
          t.time = { s.time with zone := roundZone z.offset, nextChange := next } ∧
          (t.time ≠ s.time → t.core = (((s.setTime t.time).setNotices reported).instantiateAll true).core) ∧
          (t.time = s.time → t.core = s.core ∧ t.planner = s.planner)) ∧
       (roundZone z.offset = z.offset → (∀ n, z.next = some n → roundZone n.2 = n.2) → t.answers ⟨tag, 0x11, body⟩ .ok .code) ∧
       ((roundZone z.offset ≠ z.offset ∨ ∃ n, z.next = some n ∧ roundZone n.2 ≠ n.2) →
          t.answers ⟨tag, 0x11, body⟩ .clamped (.zone (roundZone z.offset) next))) ∧
      t.catalogue = s.catalogue ∧ t.guide = s.guide ∧ t.link.settings = s.link.settings) ∧
  (∀ (n : NextChange) (s : State), s.lines.resetn = true → s.time.clockSet = true → s.time.nextChange = some n →
    n.at_ ≤ s.time.seconds →
    ∃ t, exec .nextChangeTaken s = .next t ∧ t.time = { s.time with zone := n.offset, nextChange := none } ∧
      t.core = (((s.setTime t.time).setNotices (if s.time.zone = n.offset then s.notices else
        offerTo s.link.settings.noticeMask ⟨.zoneChanged s.time.zone n.offset .scheduled, s.time.seconds⟩ s.notices)).instantiateAll
          true).core ∧
      t.catalogue = s.catalogue ∧ t.guide = s.guide ∧ t.link.settings = s.link.settings) ∧
  (∀ o : Int, -720 ≤ roundZone o ∧ roundZone o ≤ 840 ∧ roundZone o % 15 = 0 ∧
    (o < -720 → roundZone o = -720) ∧ (840 < o → roundZone o = 840) ∧
    (-720 ≤ o → o ≤ 840 → roundZone o - 7 ≤ o ∧ o ≤ roundZone o + 7)) ∧
  (∀ (zone day : Int) (minute u : Nat) (n : NextChange),
    (let l := day * 86400 + (minute : Int) * 60
     (toUtc zone none day minute = some u ↔ u ≤ maxU32 ∧ (u : Int) = l - 60 * zone) ∧
     (toUtc zone (some n) day minute = some u ↔ u ≤ maxU32 ∧ (u : Int) = if l - 60 * zone < n.at_ then l - 60 * zone
       else if (n.at_ : Int) ≤ l - 60 * n.offset then l - 60 * n.offset else n.at_))) ∧
  (∀ (s : State) (l : Link) (minute duration : Nat) (o : Occurrence) (b : Booking), s.tablesHold → s.booking? o.handle = some b →
    (let t := s.retimeEntry l minute duration o
     (∀ u, b.state = .pending → b.origin = .slot l.index → s.time.seconds < b.nominalStart →
       toUtc s.time.zone s.time.nextChange o.day minute = some u → s.time.seconds < u → u ≠ b.nominalStart → u + duration ≤ maxU32 →
       t.booking? o.handle = some { b with nominalStart := u, nominalStop := u + duration, replan := true } ∧
         (∀ k, k ≠ o.handle → t.booking? k = s.booking? k) ∧ t.planner.triggered = true ∧
         t.core = ((s.setBook t.book).setNotices (offerTo s.link.settings.noticeMask
           ⟨.bookingState o.handle ⟨.pending, b.placement, b.verdict, .none⟩, s.time.seconds⟩ s.notices)).core) ∧
     ((b.state ≠ .pending ∨ b.origin ≠ .slot l.index ∨ b.nominalStart ≤ s.time.seconds ∨
       ∀ u, toUtc s.time.zone s.time.nextChange o.day minute = some u → u ≤ s.time.seconds ∨ u = b.nominalStart ∨ maxU32 < u + duration) →
       t = s)))

/-- LOCAL_DAY_START: today becomes the last local date, the stale events that no unfinished booking refers to leave the guide, and every
slot link is instantiated. -/
def Obligations.LocalDayStarts : Prop :=
  ∀ s : State, s.lines.resetn = true → s.time.clockSet = true →
    (∀ d, s.time.lastDate = some d → d < ((s.time.seconds : Int) + 60 * s.time.zone) / 86400) →
    ∃ t, exec .localDayStart s = .next t ∧
      t.time = { s.time with lastDate := some (((s.time.seconds : Int) + 60 * s.time.zone) / 86400) } ∧
      t.guide = (s.guide.filter fun e => !(decide (e.start + e.duration + 3600 < s.time.seconds) && !s.exempt e)) ∧
      t.core = (((s.setTime t.time).setGuide t.guide).instantiateAll false).core ∧
      t.catalogue = s.catalogue ∧ t.link.settings = s.link.settings

/-! ## Catalogue and guide (R20 to R35) -/

/-- MUX_LOAD and SERVICE_LOAD: a new id or number takes the lowest free index; the same contents change nothing; another quadrant, or
another multiplex, is stored and asks for a pass, and is refused with InUse under a booking in Due, Recording or Stopping; a rate alone is
stored at once. A quadrant above 3, a free multiplex index or a rate above 40000 is refused with BadField, and a new id or number while no
index is free with NoSpace. -/
def Obligations.CatalogueIsLoaded : Prop :=
  (∀ (tag : Byte) (body : List Byte) (id q : Nat) (s : State), parseMuxLoad body = .ok (id, q) → s.takes ⟨tag, 0x18, body⟩ →
    ∃ t, exec (.muxLoad tag body) s = .next t ∧
      (3 < q → t.unchanged s ∧ t.replies ⟨tag, 0x18, body⟩ .badField .code) ∧
      (q ≤ 3 → (∀ m ∈ s.catalogue.muxes, m.id ≠ id) → ∀ i, firstFree (s.catalogue.muxes.map (·.index)) 0 128 = some i →
        t.becomes (s.setMuxes (insertBy (fun x y => decide (x.index < y.index)) ⟨i, id, q⟩ s.catalogue.muxes)) ∧
          t.planner = s.planner ∧ t.replies ⟨tag, 0x18, body⟩ .ok (.index i)) ∧
      (q ≤ 3 → (∀ m ∈ s.catalogue.muxes, m.id ≠ id) → (∀ i, i < 128 → ∃ m ∈ s.catalogue.muxes, m.index = i) →
        t.unchanged s ∧ t.replies ⟨tag, 0x18, body⟩ .noSpace .code) ∧
      (q ≤ 3 → ∀ m, (s.catalogue.muxes.find? fun m => m.id == id) = some m →
        (m.quadrant = q → t.unchanged s ∧ t.replies ⟨tag, 0x18, body⟩ .ok (.index m.index)) ∧
        (m.quadrant ≠ q → s.muxPinned m.index = true → t.unchanged s ∧ t.replies ⟨tag, 0x18, body⟩ .inUse .code) ∧
        (m.quadrant ≠ q → s.muxPinned m.index = false →
          t.becomes (s.setMuxes (s.catalogue.muxes.map fun x => if x.id = id then { x with quadrant := q } else x)) ∧
            t.awaits (.done .ok (.index m.index))))) ∧
  (∀ (tag : Byte) (body : List Byte) (f : ServiceFields) (s : State), parseServiceLoad body = .ok f → s.takes ⟨tag, 0x19, body⟩ →
    ∃ t, exec (.serviceLoad tag body) s = .next t ∧
      ((findMux s.catalogue.muxes f.mux = none ∨ 40000 < f.rate) → t.unchanged s ∧ t.replies ⟨tag, 0x19, body⟩ .badField .code) ∧
      ((findMux s.catalogue.muxes f.mux).isSome = true → f.rate ≤ 40000 → (∀ v ∈ s.catalogue.services, v.number ≠ f.number) →
        ∀ i, firstFree (s.catalogue.services.map (·.index)) 0 512 = some i →
        t.becomes (s.setServices (insertBy (fun x y => decide (x.index < y.index)) ⟨i, f.number, f.mux, f.rate⟩
          s.catalogue.services)) ∧ t.planner = s.planner ∧ t.replies ⟨tag, 0x19, body⟩ .ok (.index i)) ∧
      ((findMux s.catalogue.muxes f.mux).isSome = true → f.rate ≤ 40000 → (∀ v ∈ s.catalogue.services, v.number ≠ f.number) →
        (∀ i, i < 512 → ∃ v ∈ s.catalogue.services, v.index = i) →
        t.unchanged s ∧ t.replies ⟨tag, 0x19, body⟩ .noSpace .code) ∧
      ((findMux s.catalogue.muxes f.mux).isSome = true → f.rate ≤ 40000 → ∀ v,
        (s.catalogue.services.find? fun v => v.number == f.number) = some v →
        (let stored := s.setServices (s.catalogue.services.map fun x =>
           if x.number = f.number then { x with mux := f.mux, rate := f.rate } else x)
         (v.mux = f.mux → t.becomes stored ∧ t.planner = s.planner ∧ t.replies ⟨tag, 0x19, body⟩ .ok (.index v.index)) ∧
         (v.mux ≠ f.mux → s.servicePinned v.index = true → t.unchanged s ∧ t.replies ⟨tag, 0x19, body⟩ .inUse .code) ∧
         (v.mux ≠ f.mux → s.servicePinned v.index = false → t.becomes stored ∧ t.awaits (.done .ok (.index v.index))))))

/-- MUX_DROP frees the index of a multiplex; it is refused with NotFound at a free index and with InUse while a service entry or the live
claim names it; it starts no pass. -/
def Obligations.MuxDropFreesTheIndex : Prop :=
  ∀ (tag index : Byte) (s : State), s.takes ⟨tag, 0x1A, [index]⟩ →
    ∃ t, exec (.muxDrop tag [index]) s = .next t ∧ t.planner = s.planner ∧
      (findMux s.catalogue.muxes index.toNat = none → t.unchanged s ∧ t.replies ⟨tag, 0x1A, [index]⟩ .notFound .code) ∧
      (127 < index.toNat → (∀ m ∈ s.catalogue.muxes, m.index ≤ 127) → t.unchanged s ∧ t.replies ⟨tag, 0x1A, [index]⟩ .notFound .code) ∧
      ((findMux s.catalogue.muxes index.toNat).isSome = true →
        ((∃ v ∈ s.catalogue.services, v.mux = index.toNat) ∨ (∃ c, s.monitor.live = some c ∧ c.mux = index.toNat)) →
        t.unchanged s ∧ t.replies ⟨tag, 0x1A, [index]⟩ .inUse .code) ∧
      ((findMux s.catalogue.muxes index.toNat).isSome = true → (∀ v ∈ s.catalogue.services, v.mux ≠ index.toNat) →
        (∀ c, s.monitor.live = some c → c.mux ≠ index.toNat) →
        t.becomes (s.setMuxes (s.catalogue.muxes.filter fun m => m.index ≠ index.toNat)) ∧
          t.replies ⟨tag, 0x1A, [index]⟩ .ok .code)

/-- SERVICE_DROP and GUIDE_DROP: a service without unfinished booking and link is freed and its events go; a range or all of a service's
events go from the guide; the reply carries the number of events removed. Clock and settings stay. Each event removed, in table order
(log 11), is handed to the Booking Table: a Pending or Armed booking that holds it as main event promotes its first alternative that has not ended, is
cancelled (GuideDrop) when it is of a series and has none, or else is orphaned; one that lists it as an alternative loses that entry;
several in ascending handle (log 39). With no link Starved each is settled as it stood before the removal; in any state, as it stands
when its turn comes, since a booking cancelled before it has Starved links retried (R76). A promoted or orphaned booking opens on the placement of the pass that follows (log 38). A promoted
alternative whose own event has left the table leaves tag and key absent (log 47). -/
def Obligations.DropsRemoveEvents : Prop :=
  (∀ (tag : Byte) (body : List Byte) (index : Nat) (s : State), parseWord body = .ok index → s.takes ⟨tag, 0x1B, body⟩ →
    ∃ t, exec (.serviceDrop tag body) s = .next t ∧ t.time = s.time ∧ t.link.settings = s.link.settings ∧
      (findService s.catalogue.services index = none → t.unchanged s ∧ t.replies ⟨tag, 0x1B, body⟩ .notFound .code) ∧
      ((findService s.catalogue.services index).isSome = true → s.serviceHeld index = true →
        t.unchanged s ∧ t.replies ⟨tag, 0x1B, body⟩ .inUse .code) ∧
      ((findService s.catalogue.services index).isSome = true → s.serviceHeld index = false →
        t.catalogue.muxes = s.catalogue.muxes ∧
          t.catalogue.services = (s.catalogue.services.filter fun v => v.index ≠ index) ∧
          t.guide = (s.guide.filter fun e => e.service ≠ index) ∧
          t.core = (((s.guide.filter fun e => e.service = index).foldl (fun u e => u.eventRemoved ⟨e.service, e.id⟩)
            ((s.setCatalogue t.catalogue).setGuide t.guide))).core ∧
          t.answers ⟨tag, 0x1B, body⟩ .ok (.count (s.guide.filter fun e => e.service = index).length))) ∧
  (∀ (tag : Byte) (body : List Byte) (f : DropFields) (s : State), parseGuideDrop body = .ok f → s.takes ⟨tag, 0x21, body⟩ →
    ∃ t, exec (.guideDrop tag body) s = .next t ∧ t.time = s.time ∧ t.catalogue = s.catalogue ∧
      t.link.settings = s.link.settings ∧
      (findService s.catalogue.services f.service = none → t.unchanged s ∧ t.replies ⟨tag, 0x21, body⟩ .badField .code) ∧
      (∀ x y, f.range = some (x, y) → y < x → t.unchanged s ∧ t.replies ⟨tag, 0x21, body⟩ .badField .code) ∧
      ((findService s.catalogue.services f.service).isSome = true → (∀ x y, f.range = some (x, y) → x ≤ y) →
        (let gone := s.guide.filter fun e => e.service == f.service && (match f.range with
           | some (x, y) => decide (x ≤ e.start) && decide (e.start < y)
           | none => true)
         t.guide = s.guide.filter (fun e => !(e.service == f.service && (match f.range with
           | some (x, y) => decide (x ≤ e.start) && decide (e.start < y)
           | none => true))) ∧
         t.core = (gone.foldl (fun u e => u.eventRemoved ⟨e.service, e.id⟩) (s.setGuide t.guide)).core ∧
         t.answers ⟨tag, 0x21, body⟩ .ok (.count gone.length)))) ∧
  (∀ (ref : EventRef) (s : State), s.eventRemoved ref = (s.book.records.map (·.handle)).foldl (fun u h => u.losesEvent ref h) s) ∧
  (∀ (ref : EventRef) (b : Booking) (s : State), s.tablesHold → s.booking? b.handle = some b → (b.state = .pending ∨ b.state = .armed) →
    (let open_ := b.alternatives.filter fun a => decide (s.time.seconds < a.stop)
     let series := ∃ i, b.origin = .series i
     let bare := { b.items with report := none, candidate := none }
     let changes := fun (t : State) (x : Booking) => t.booking? b.handle = some x ∧ t.tells x ∧ t.planner.triggered = true
     let follows := fun (t : State) =>
       (∀ a rest, b.main = some ref → series → open_ = a :: rest →
         (let event := findEvent s.guide ⟨a.service, a.id⟩
          changes t { b with
            main := some ⟨a.service, a.id⟩, service := a.service, nominalStart := a.start, nominalStop := a.stop
            tag := event.bind (·.tag), key := event.bind (·.key), alternatives := rest, flags := { b.flags with moved := true }
            items := bare, replan := true
            state := if b.state = .armed ∧ s.time.seconds < a.start - b.prePad then .pending else b.state })) ∧
       (b.main = some ref → series → open_ = [] →
         t.booking? b.handle = some ({ b with alternatives := [] }.finished ⟨.cancelled, .guideDrop⟩ false s.time.seconds) ∧
           t.tellsFinish b ⟨.cancelled, .guideDrop⟩ ∧ t.orderOf b.handle = none ∧ t.planner.triggered = true) ∧
       (b.main = some ref → ¬ series →
         changes t { b with main := none, flags := { b.flags with orphan := true }, items := bare, replan := true }) ∧
       (b.main ≠ some ref → (∃ a ∈ b.alternatives, a.service = ref.service ∧ a.id = ref.id) →
         changes t { b with alternatives := b.alternatives.filter fun a => !(a.service == ref.service && a.id == ref.id) }) ∧
       (b.main ≠ some ref → (∀ a ∈ b.alternatives, ¬ (a.service = ref.service ∧ a.id = ref.id)) → t.booking? b.handle = some b)
     follows (s.losesEvent ref b.handle) ∧ ((∀ l ∈ s.links, l.starved = false) → follows (s.eventRemoved ref)) ∧
     (b.main ≠ some ref ∨ ¬ series ∨ open_ ≠ [] → (s.losesEvent ref b.handle).links = s.links ∧
       ∀ k, k ≠ b.handle → (s.losesEvent ref b.handle).booking? k = s.booking? k))) ∧
  (∀ (ref : EventRef) (h : Nat) (s : State), (∀ b, s.booking? h = some b → b.state ≠ .pending ∧ b.state ≠ .armed) →
    s.losesEvent ref h = s)

/-- GUIDE_BATCH. A batch that fails its checks is refused with BadField. One that passes them removes the events of its service that start
in the range and whose id is not in the batch, replaces those whose id is, and inserts the others, in start order while there is room;
every other event of the table stays, but where room is short the stale ones that no unfinished booking refers to may go first. The reply
carries the counts of events removed, updated and inserted, the copies skipped and the events not stored, Ok with none of these and
Truncated, the table full, with some. Then the Booking Table takes the removals and the updates, in this order (log 11), several
bookings of one event in ascending handle (log 39), and the Series Matcher is handed every event inserted or updated, in table order. A
Pending or Armed booking follows a moved main event and takes its changed tags: it finishes Missed (GuideMoved) when its new padded end is
past, and returns to Pending from Armed when its new padded start is ahead; the pass that follows places it (log 38). A moved alternative
takes the event's times and its place in start order, after entries of the same start (log 40), or leaves the list when it has ended. With
no link Starved each booking is settled as it stood before the update; in any state, as it stands when its turn comes, since a booking
finished before it has Starved links retried (R76). The checks of R28 and the copies of R29 are stated as those rules list them. -/
def Obligations.GuideBatchIsStored : Prop :=
  (∀ (tag : Byte) (body : List Byte) (b : Batch) (s : State), parseGuideBatch body = .ok b → s.takes ⟨tag, 0x20, body⟩ →
    body.length ≤ 240 →
    ∃ t, exec (.guideBatch tag body) s = .next t ∧ t.time = s.time ∧ t.catalogue = s.catalogue ∧
      t.link.settings = s.link.settings ∧
      (b.allowed s.catalogue.services = false → t.unchanged s ∧ t.replies ⟨tag, 0x20, body⟩ .badField .code) ∧
      (b.allowed s.catalogue.services = true →
        (let held := fun (n : Event) => s.guide.any fun e => e.service == n.service && e.id == n.id
         let named := fun (e : Event) => b.events.any fun n => n.service == e.service && n.id == e.id
         let ranged := fun (e : Event) => e.service == b.service && decide (b.from_ ≤ e.start) && decide (e.start < b.to_)
         let room := s.guide.length + b.events.length ≤ 4096
         let stale := fun (e : Event) => s.time.clockSet && decide (e.start + e.duration + 3600 < s.time.seconds) && !s.exempt e
         (∀ e ∈ t.guide, e ∈ b.events ∨ (e ∈ s.guide ∧ ranged e = false ∧ named e = false)) ∧
         (∀ e ∈ s.guide, ranged e = false → named e = false → e ∈ t.guide ∨ (¬ room ∧ stale e = true)) ∧
         (∀ n ∈ b.events, held n = true → n ∈ t.guide ∨ (¬ room ∧ stale n = true)) ∧
         (∀ n ∈ b.events, held n = false → n ∈ t.guide ∨ (¬ room ∧ 4096 ≤ t.guide.length ∧
           ∀ m ∈ b.events, held m = false → m ∈ t.guide → m.start < n.start ∨ (m.start = n.start ∧ m.id < n.id))) ∧
         (∃ updated inserted left, t.answers ⟨tag, 0x20, body⟩ (if left = 0 then .ok else .truncated)
             (.batch (s.guide.filter fun e => ranged e && !b.events.any fun n => n.id == e.id).length updated inserted b.skipped left) ∧
           updated = (b.events.filter held).length ∧ updated + inserted + left = b.events.length ∧
           inserted = (b.events.filter fun n => !held n && t.guide.contains n).length ∧ (room → left = 0)) ∧
         (let r := s.applyBatch b
          t.core = ((r.1.bookBatch r.2).matchBatch r.2.handed).core ∧
          r.1.guide = t.guide ∧ r.2.removed = (s.guide.filter fun e => ranged e && !b.events.any fun n => n.id == e.id) ∧
          ∀ e, e ∈ r.2.handed ↔ e ∈ b.events ∧ (held e = true ∨ e ∈ t.guide))))) ∧
  (∀ (b : Batch) (services : List Service),
    (let start := fun (e : BatchEntry) (k : Nat) => b.base + e.offset + k * e.spacing
     let copy := fun (e : BatchEntry) (k : Nat) =>
       (⟨b.service, e.id + k * e.step, start e k, e.duration, e.tag, if k = 0 then e.key else none, e.capable⟩ : Event)
     (b.allowed services = true ↔
       (∃ v ∈ services, v.index = b.service) ∧ b.from_ ≤ b.to_ ∧
         (∀ e ∈ b.entries, e.duration ≤ 86400 ∧ (e.repeats = 0 ∨ (e.step ≠ 0 ∧ 60 ≤ e.spacing ∧ e.spacing ≤ 86400)) ∧
           ∀ k, k ≤ e.repeats → start e k + e.duration ≤ 4294967295 ∧ e.id + k * e.step ≤ 65535) ∧
         (b.events.map (·.id)).Nodup) ∧
     b.events = (b.entries.flatMap fun e => if e.duration = 0 then [] else (List.range (e.repeats + 1)).map (copy e)) ∧
     b.skipped = (b.entries.foldl (fun n e => if e.duration = 0 then n + (e.repeats + 1) else n) 0))) ∧
  (∀ (old new : Event) (s : State),
    s.eventUpdated old new = (s.book.records.map (·.handle)).foldl (fun u h => u.takesUpdate old new h) s) ∧
  (∀ (old new : Event) (b : Booking) (s : State), s.tablesHold → s.booking? b.handle = some b → (b.state = .pending ∨ b.state = .armed) →
    (let moved := old.start ≠ new.start ∨ old.duration ≠ new.duration
     let retagged := old.tag ≠ new.tag ∨ old.key ≠ new.key
     let isMain := b.main = some ⟨new.service, new.id⟩
     let listed := ∃ a ∈ b.alternatives, a.service = new.service ∧ a.id = new.id
     let late := moved ∧ min (new.start + new.duration + b.postPad) maxU32 ≤ s.time.seconds
     let times := if moved then { b with nominalStart := new.start, nominalStop := new.start + new.duration, replan := true } else b
     let tags := if retagged then { times with tag := new.tag, key := new.key } else times
     let x := if moved ∧ b.state = .armed ∧ s.time.seconds < new.start - b.prePad then
       { tags with state := .pending, items := { b.items with candidate := none } } else tags
     let rest := b.alternatives.filter fun a => !(a.service == new.service && a.id == new.id)
     let y := { b with alternatives := if new.start + new.duration ≤ s.time.seconds then rest else
       insertAlternative ⟨new.service, new.id, new.start, new.start + new.duration⟩ rest }
     let changes := fun (t : State) (z : Booking) => t.booking? b.handle = some z ∧ t.tells z ∧ t.planner.triggered = true
     let follows := fun (t : State) =>
       (isMain → late → t.booking? b.handle = some (x.finished ⟨.missed, .guideMoved⟩ false s.time.seconds) ∧
         t.tellsFinish b ⟨.missed, .guideMoved⟩ ∧ t.orderOf b.handle = none ∧ t.planner.triggered = true) ∧
       (isMain → (moved ∨ retagged) → ¬ late → changes t x) ∧
       (¬ isMain → moved → listed → changes t y) ∧
       ((¬ moved ∧ ¬ retagged) ∨ (¬ moved ∧ ¬ isMain) ∨ (¬ isMain ∧ ¬ listed) → t.booking? b.handle = some b)
     follows (s.takesUpdate old new b.handle) ∧ ((∀ l ∈ s.links, l.starved = false) → follows (s.eventUpdated old new)) ∧
     (¬ isMain ∨ ¬ late → (s.takesUpdate old new b.handle).links = s.links ∧
       ∀ k, k ≠ b.handle → (s.takesUpdate old new b.handle).booking? k = s.booking? k))) ∧
  (∀ (old new : Event) (h : Nat) (s : State), (∀ b, s.booking? h = some b → b.state ≠ .pending ∧ b.state ≠ .armed) →
    s.takesUpdate old new h = s) ∧
  (∀ (a : Alternative) (list : List Alternative), (list.map (·.start)).Pairwise (· ≤ ·) →
    insertAlternative a list = (list.filter fun y => decide (y.start ≤ a.start)) ++ a :: (list.filter fun y => decide (a.start < y.start)))

/-- QUERY_EVENT, QUERY_BOOKING, LIST_BOOKINGS, QUERY_LINK, QUERY_PLAN, QUERY_CLASHES: each is answered from the tables as they stand, and
changes nothing. Where several unfinished bookings hold the event, QUERY_EVENT answers the lowest handle (log 61, the model's choice). The
body of the reply to QUERY_BOOKING is the result code and the booking record of 112 bytes, field by field at its
offset; a field its presence marks leave out is zero. -/
def Obligations.QueriesAnswer : Prop :=
  (∀ (tag : Byte) (body : List Byte) (ref : EventRef) (s : State), parseEventRef body = .ok ref → s.takes ⟨tag, 0x22, body⟩ →
    ∃ t, exec (.queryEvent tag body) s = .next t ∧ t.unchanged s ∧
      (findService s.catalogue.services ref.service = none → t.replies ⟨tag, 0x22, body⟩ .badField .code) ∧
      ((findService s.catalogue.services ref.service).isSome = true → findEvent s.guide ref = none →
        t.replies ⟨tag, 0x22, body⟩ .notFound .code) ∧
      (∀ e, (findService s.catalogue.services ref.service).isSome = true → findEvent s.guide ref = some e →
        t.replies ⟨tag, 0x22, body⟩ .ok (.event e
          (((s.book.records.find? fun b => b.unfinished && b.main == some ref).map (·.handle)).getD 0)))) ∧
  (∀ (tag : Byte) (body : List Byte) (h : Nat) (s : State), parseWord body = .ok h → s.takes ⟨tag, 0x2D, body⟩ →
    ∃ t, exec (.queryBooking tag body) s = .next t ∧ t.unchanged s ∧
      (h = 0 → t.replies ⟨tag, 0x2D, body⟩ .badField .code) ∧
      (h ≠ 0 → s.booking? h = none → t.replies ⟨tag, 0x2D, body⟩ .notFound .code) ∧
      (∀ b, h ≠ 0 → s.booking? h = some b → t.replies ⟨tag, 0x2D, body⟩ .ok (.record b))) ∧
  (∀ (tag : Byte) (body : List Byte) (h : Nat) (f : Filter) (s : State), parseListBookings body = .ok (h, f) →
    s.takes ⟨tag, 0x2E, body⟩ →
    ∃ t, exec (.listBookings tag body) s = .next t ∧ t.unchanged s ∧
      (let all := s.book.records.filter fun b => decide (h ≤ b.handle ∧ 1 ≤ b.handle) && (match f with
         | .any => true
         | .unfinished => b.state != .finished
         | .finished => b.state == .finished)
       t.replies ⟨tag, 0x2E, body⟩ .ok (.listing ((all.take 60).map fun b => (b.handle, b.state)) (decide (60 < all.length))))) ∧
  (∀ (tag index : Byte) (s : State), s.takes ⟨tag, 0x33, [index]⟩ →
    ∃ t, exec (.queryLink tag [index]) s = .next t ∧ t.unchanged s ∧
      (47 < index.toNat → t.replies ⟨tag, 0x33, [index]⟩ .badField .code) ∧
      (index.toNat ≤ 47 → s.link? index.toNat = none → t.replies ⟨tag, 0x33, [index]⟩ .notFound .code) ∧
      (∀ l, index.toNat ≤ 47 → s.link? index.toNat = some l → t.replies ⟨tag, 0x33, [index]⟩ .ok
        (.link l (s.book.records.filter fun b => b.state != .finished &&
          (b.origin == .series index.toNat || b.origin == .slot index.toNat)).length))) ∧
  (∀ (tag : Byte) (body : List Byte) (f : PlanFields) (s : State), parseQueryPlan body = .ok f → s.takes ⟨tag, 0x38, body⟩ →
    ∃ t, exec (.queryPlan tag body) s = .next t ∧ t.unchanged s ∧
      (f.to_ < f.from_ → t.replies ⟨tag, 0x38, body⟩ .badField .code) ∧
      (f.from_ ≤ f.to_ →
        (let all := s.planner.plan.filter fun o => o.tuner == f.tuner && o.overlapsRange f.from_ f.to_
         t.replies ⟨tag, 0x38, body⟩ .ok (.plan s.planner.lastT0 s.planner.running.isSome all.length ((all.drop f.skip).take 12)
           (decide (12 < (all.drop f.skip).length)))))) ∧
  (∀ (tag index : Byte) (s : State), s.takes ⟨tag, 0x39, [index]⟩ →
    ∃ t, exec (.queryClashes tag [index]) s = .next t ∧ t.unchanged s ∧
      (let rest := s.planner.clashes.drop index.toNat
       t.replies ⟨tag, 0x39, [index]⟩ .ok
         (.clashes s.planner.lastT0 s.planner.clashes.length (rest.take 8) (decide (8 < rest.length))))) ∧
  (∀ (tag : Byte) (b : Booking), ∃ bytes,
    Reply.body ⟨tag, replyKind 0x2D, .ok, .record b⟩ = some (0x00 :: bytes) ∧ bytes.length = 112 ∧
    (let at_ := fun offset size => (bytes.drop offset).take size
     let byte := BitVec.ofNat 8
     at_ 0 2 = be16 b.handle ∧
     (match b.origin with
       | .event => at_ 2 2 = [0, 0xFF]
       | .time => at_ 2 2 = [1, 0xFF]
       | .series i => at_ 2 2 = [2, byte i]
       | .slot i => at_ 2 2 = [3, byte i]) ∧
     at_ 4 2 = be16 b.service ∧
     at_ 6 1 = [byte (markNumber [b.main.isSome, b.tag.isSome, b.key.isSome, b.stopCause.isSome, b.verdict.isSome, b.actualStart.isSome,
       b.actualStop.isSome])] ∧
     at_ 7 2 = be16 ((b.main.map (·.id)).getD 0) ∧ at_ 9 4 = be32 (b.tag.getD 0) ∧ at_ 13 4 = be32 (b.key.getD 0) ∧
     at_ 17 8 = be32 b.nominalStart ++ be32 b.nominalStop ∧ at_ 25 4 = be16 b.prePad ++ be16 b.postPad ∧
     at_ 29 2 = [byte b.priority, byte b.accurate.toNat] ∧ at_ 31 1 = [stateByte b.state] ∧
     at_ 32 1 = [(b.stopCause.map (choiceByte [.schedule, .slack, .overrun, .cancel, .standby])).getD 0] ∧
     at_ 33 1 = [placementByte b.placement] ∧ at_ 34 8 = windowBytes b.placement ∧
     at_ 42 1 = [match b.placement with
       | .unplaced c => causeByte c
       | _ => 0] ∧
     at_ 43 2 = [(b.verdict.map outcomeByte).getD 0, (b.verdict.map reasonByte).getD 0] ∧
     at_ 45 8 = be32 (b.actualStart.getD 0) ++ be32 (b.actualStop.getD 0) ∧ at_ 53 4 = be16 b.gapSeconds ++ be16 b.gapCount ∧
     at_ 57 2 = be16 (markNumber [b.flags.orphan, b.flags.paddingTrimmed, b.flags.timedFallback, b.flags.lateStart, b.flags.moved,
       b.flags.resumed, b.flags.truncated, b.flags.stopUnconfirmed, b.flags.gaps]) ∧
     at_ 59 4 = be32 (b.finishedAt.getD 0) ∧ at_ 63 1 = [byte b.alternatives.length] ∧
     ∀ i, i < 4 → at_ (64 + 12 * i) 12 = match b.alternatives[i]? with
       | some a => be16 a.service ++ be16 a.id ++ be32 a.start ++ be32 a.stop
       | none => List.replicate 12 0))

/-! ## Bookings (R41 to R63) -/

/-- A new record takes the first handle from the next-handle value on, past 65535 to 1, that no record holds, within 129 tries, and the
value moves on behind it, and the creation is a pass trigger (R85; log 4); with 128 records nothing is created, and a BOOK_TIME that
passes every other test of R56 is refused with NoSpace and changes nothing. -/
def Obligations.NewHandlesAreFree : Prop :=
  (∀ (s : State) (make : Nat → Booking), s.tablesHold →
    (128 ≤ s.book.records.length → s.create make = none) ∧
    (s.book.records.length < 128 → ∃ h j t, s.create make = some (h, t) ∧ j < 129 ∧ h = (s.book.next - 1 + j) % 65535 + 1 ∧
      s.booking? h = none ∧ (∀ i, i < j → (s.booking? ((s.book.next - 1 + i) % 65535 + 1)).isSome = true) ∧
      t.book.next = (if h = 65535 then 1 else h + 1) ∧ t.planner.triggered = true)) ∧
  (∀ (tag : Byte) (body : List Byte) (f : TimeFields) (o : Options) (s : State), parseBookTime body = .ok (f, o) →
    s.takes ⟨tag, 0x29, body⟩ → (findService s.catalogue.services f.service).isSome = true → 60 ≤ f.duration → f.duration ≤ 86400 →
    f.start + f.duration ≤ maxU32 → ¬ (s.time.clockSet = true ∧ f.start + f.duration ≤ s.time.seconds) →
    (∀ b ∈ s.book.records, b.state ≠ .finished → b.origin = .time → b.service = f.service → b.nominalStart = f.start →
      b.nominalStop ≠ f.start + f.duration) → 128 ≤ s.book.records.length →
    ∃ t, exec (.bookTime tag body) s = .next t ∧ t.unchanged s ∧ t.replies ⟨tag, 0x29, body⟩ .noSpace .code)

/-- BOOK_TIME: on a service there is, with a duration of 60 to 86400 seconds and an end within range and not past, unless an unfinished
time booking holds the same window or the table is full, a record is created, Pending and Unplaced, with the values given clamped and
the defaults for the others; the other records stand, and the reply waits for the pass that includes it, Clamped with the stored values when
one given was adjusted and Ok with none otherwise. A free service, a duration out of bounds and an end out of range are refused with
BadField, then a window that is past with Past, then a twin with Duplicate and its handle, and nothing changes (NewHandlesAreFree has the
full table). -/
def Obligations.BookTimeCreates : Prop :=
  (∀ (tag : Byte) (body : List Byte) (f : TimeFields) (o : Options) (s : State), parseBookTime body = .ok (f, o) →
    s.takes ⟨tag, 0x29, body⟩ →
    (let bad := findService s.catalogue.services f.service = none ∨ f.duration < 60 ∨ 86400 < f.duration ∨ maxU32 < f.start + f.duration
     let past := s.time.clockSet = true ∧ f.start + f.duration ≤ s.time.seconds
     let twin := fun (b : Booking) => b ∈ s.book.records ∧ b.state ≠ .finished ∧ b.origin = .time ∧ b.service = f.service ∧
       b.nominalStart = f.start ∧ b.nominalStop = f.start + f.duration
     (bad → ∃ t, exec (.bookTime tag body) s = .next t ∧ t.unchanged s ∧ t.replies ⟨tag, 0x29, body⟩ .badField .code) ∧
     (¬ bad → past → ∃ t, exec (.bookTime tag body) s = .next t ∧ t.unchanged s ∧ t.replies ⟨tag, 0x29, body⟩ .past .code) ∧
     (¬ bad → ¬ past → (∃ b, twin b) → ∃ t b, exec (.bookTime tag body) s = .next t ∧ t.unchanged s ∧ twin b ∧
       t.replies ⟨tag, 0x29, body⟩ .duplicate (.duplicate b.handle)))) ∧
  ∀ (tag : Byte) (body : List Byte) (f : TimeFields) (o : Options) (s : State), parseBookTime body = .ok (f, o) →
    s.takes ⟨tag, 0x29, body⟩ → s.tablesHold →
    (findService s.catalogue.services f.service).isSome = true → 60 ≤ f.duration → f.duration ≤ 86400 →
    f.start + f.duration ≤ maxU32 → ¬ (s.time.clockSet = true ∧ f.start + f.duration ≤ s.time.seconds) →
    (∀ b ∈ s.book.records, b.state ≠ .finished → b.origin = .time → b.service = f.service → b.nominalStart = f.start →
      b.nominalStop ≠ f.start + f.duration) → s.book.records.length < 128 →
    ∃ t h, exec (.bookTime tag body) s = .next t ∧ s.booking? h = none ∧
      (∃ b, t.booking? h = some b ∧ b.origin = .time ∧ b.service = f.service ∧ b.main = none ∧ b.nominalStart = f.start ∧
        b.nominalStop = f.start + f.duration ∧ b.state = .pending ∧ b.placement = .unplaced .none ∧ b.accurate = false ∧
        b.priority = min (o.priority.getD 8) 15 ∧ b.prePad = min (o.prePad.getD s.link.settings.prePadDefault) 3600 ∧
        b.postPad = min (o.postPad.getD s.link.settings.postPadDefault) 7200 ∧
        (let adjusted := 15 < o.priority.getD 0 ∨ 3600 < o.prePad.getD 0 ∨ 7200 < o.postPad.getD 0 ∨ o.accurate = some true
         (adjusted → t.awaits (.booked .clamped h (some ⟨b.priority, b.prePad, b.postPad, b.accurate⟩))) ∧
         (¬ adjusted → t.awaits (.booked .ok h none)))) ∧
      (∀ k, k ≠ h → t.booking? k = s.booking? k) ∧
      t.core = (s.setBook t.book).core ∧ t.link.settings = s.link.settings

/-- BOOK_EVENT: on an event of 60 seconds or more, not past, that no unfinished booking holds as its main event, with room in the table, a
record is created on the event with its times and tags, Pending and Unplaced, accurate only when the event allows it; every other unfinished
booking that lists the event as an alternative loses that entry, the order of the others kept, and is told (several in ascending handle,
log 39); all other records stand, and the reply waits for the pass that includes it, Clamped with the stored values when one given was
adjusted and Ok with none otherwise. A free service is refused with BadField, then an event not in the table with NotFound, a shorter one with
BadField, a past one with Past, one that an unfinished booking holds with Duplicate and that booking's handle, and with the table full any
other with NoSpace; nothing changes. -/
def Obligations.BookEventCreates : Prop :=
  (∀ (tag : Byte) (body : List Byte) (ref : EventRef) (o : Options) (s : State), parseBookEvent body = .ok (ref, o) →
    s.takes ⟨tag, 0x28, body⟩ →
    (let refused := fun (r : Result) (d : ReplyData) =>
       ∃ t, exec (.bookEvent tag body) s = .next t ∧ t.unchanged s ∧ t.replies ⟨tag, 0x28, body⟩ r d
     (findService s.catalogue.services ref.service = none → refused .badField .code) ∧
     ((findService s.catalogue.services ref.service).isSome = true →
       (findEvent s.guide ref = none → refused .notFound .code) ∧
       ∀ e, findEvent s.guide ref = some e →
         (let past := s.time.clockSet = true ∧ e.start + e.duration ≤ s.time.seconds
          let holder := fun (b : Booking) => b ∈ s.book.records ∧ b.state ≠ .finished ∧ b.main = some ref
          (e.duration < 60 → refused .badField .code) ∧
          (60 ≤ e.duration → past → refused .past .code) ∧
          (60 ≤ e.duration → ¬ past → (∃ b, holder b) → ∃ b, holder b ∧ refused .duplicate (.duplicate b.handle)) ∧
          (60 ≤ e.duration → ¬ past → (∀ b, ¬ holder b) → s.tablesHold → 128 ≤ s.book.records.length →
            refused .noSpace .code))))) ∧
  ∀ (tag : Byte) (body : List Byte) (ref : EventRef) (o : Options) (e : Event) (s : State), parseBookEvent body = .ok (ref, o) →
    s.takes ⟨tag, 0x28, body⟩ → s.tablesHold → (findService s.catalogue.services ref.service).isSome = true →
    findEvent s.guide ref = some e → 60 ≤ e.duration → ¬ (s.time.clockSet = true ∧ e.start + e.duration ≤ s.time.seconds) →
    (∀ b ∈ s.book.records, b.state ≠ .finished → b.main ≠ some ref) → s.book.records.length < 128 →
    ∃ t h b, exec (.bookEvent tag body) s = .next t ∧ s.booking? h = none ∧ t.booking? h = some b ∧
      b.origin = .event ∧ b.service = e.service ∧ b.main = some ref ∧ b.nominalStart = e.start ∧
      b.nominalStop = e.start + e.duration ∧ b.tag = e.tag ∧ b.key = e.key ∧ b.state = .pending ∧ b.placement = .unplaced .none ∧
      b.accurate = (o.accurate.getD false && e.capable) ∧ b.priority = min (o.priority.getD 8) 15 ∧
      b.prePad = min (o.prePad.getD s.link.settings.prePadDefault) 3600 ∧
      b.postPad = min (o.postPad.getD s.link.settings.postPadDefault) 7200 ∧
      b.alternatives = [] ∧ b.flags = .clear ∧ b.items = .empty ∧ b.verdict = none ∧ b.actualStart = none ∧ b.actualStop = none ∧
      (let adjusted := 15 < o.priority.getD 0 ∨ 3600 < o.prePad.getD 0 ∨ 7200 < o.postPad.getD 0 ∨
         (o.accurate = some true ∧ e.capable = false)
       (adjusted → t.awaits (.booked .clamped h (some ⟨b.priority, b.prePad, b.postPad, b.accurate⟩))) ∧
       (¬ adjusted → t.awaits (.booked .ok h none))) ∧
      (let lists := fun (x : Booking) => x.state != .finished && x.alternatives.any fun a => a.service == ref.service && a.id == ref.id
       let without := fun (x : Booking) => if lists x then { x with
         alternatives := x.alternatives.filter fun a => !(a.service == ref.service && a.id == ref.id) } else x
       (∀ k, k ≠ h → t.booking? k = (s.booking? k).map without) ∧
       (∀ x ∈ s.book.records, lists x = true → t.tells (without x)) ∧
       t.notices = (s.book.records.filter lists).foldl (fun q x => offerTo s.link.settings.noticeMask
         ⟨.bookingState x.handle ⟨x.state, x.placement, x.verdict, .none⟩, s.time.seconds⟩ q) s.notices) ∧
      t.core = ((s.setBook t.book).setNotices t.notices).core ∧ t.link.settings = s.link.settings

/-- AMEND of a Pending or Armed booking stores the values given, clamped; the accurate flag only when the main event allows it, and with the
flag taken away the report record goes. An Armed booking that loses its accurate flag or whose padded start now lies ahead returns to Pending
without its candidate; a Pending Unplaced one whose padded end is past finishes Missed (Clash); otherwise the record keeps everything else,
and its start waits for the pass that follows (log 38). In Recording priority and post-padding alone may be given: an effective end that
equalled the old padded end becomes the new padded end, or the first conflict with another pinned booking of the plan before it; another
effective end keeps its value (log 41 for one above the old padded end); a shorter end at or before now is reached at once. The reply waits
for the pass. In Due, Stopping and Finished it is refused with StateMismatch, and a handle without record with NotFound. -/
def Obligations.AmendStores : Prop :=
  (∀ (tag : Byte) (body : List Byte) (h : Nat) (o : Options) (s : State), parseAmend body = .ok (h, o) → s.takes ⟨tag, 0x2A, body⟩ →
    s.booking? h = none → ∃ t, exec (.amend tag body) s = .next t ∧ t.unchanged s ∧ t.replies ⟨tag, 0x2A, body⟩ .notFound .code) ∧
  ∀ (tag : Byte) (body : List Byte) (h : Nat) (o : Options) (b : Booking) (s : State), parseAmend body = .ok (h, o) →
    s.takes ⟨tag, 0x2A, body⟩ → s.tablesHold → s.booking? h = some b →
    (let priority := match o.priority with
       | some p => min p 15
       | none => b.priority
     let prePad := match o.prePad with
       | some p => min p 3600
       | none => b.prePad
     let postPad := match o.postPad with
       | some p => min p 7200
       | none => b.postPad
     let accurate := match o.accurate with
       | some a => a && s.mainCapable b
       | none => b.accurate
     let adjusted := fun (given : Bool) => 15 < o.priority.getD 0 ∨ 3600 < o.prePad.getD 0 ∨ 7200 < o.postPad.getD 0 ∨ given = true
     ∃ t, exec (.amend tag body) s = .next t ∧
      ((b.state = .due ∨ b.state = .stopping ∨ b.state = .finished) →
        t.unchanged s ∧ t.replies ⟨tag, 0x2A, body⟩ .stateMismatch .code) ∧
      (b.state = .recording → (o.prePad.isSome = true ∨ o.accurate.isSome = true) →
        t.unchanged s ∧ t.replies ⟨tag, 0x2A, body⟩ .stateMismatch .code) ∧
      (b.state = .recording → o.prePad = none → o.accurate = none →
        (adjusted false → t.awaits (.booked .clamped h (some ⟨priority, b.prePad, postPad, b.accurate⟩))) ∧
        (¬ adjusted false → t.awaits (.booked .ok h none)) ∧
        (∃ x, t.booking? h = some x ∧ x.prePad = b.prePad ∧ x.accurate = b.accurate ∧ x.actualStart = b.actualStart ∧
          (b.postPad ≤ postPad → x.state = .recording) ∧ x.priority = priority ∧ x.postPad = postPad) ∧
        (∀ y a e, b.placement = .placed y a e →
          (let before := min (b.nominalStop + b.postPad) maxU32
           let after := min (b.nominalStop + postPad) maxU32
           let conflict := fun at_ => ((s.pinnedGround h).kindsAt y true (muxOf s.catalogue.services b.service) at_).any
           (e ≠ before → ∃ x, t.booking? h = some x ∧ x.placement = b.placement) ∧
           (e = before → after ≤ e → ∃ x, t.booking? h = some x ∧ x.placement = .placed y a after) ∧
           (e = before → e < after → s.time.seconds ≤ e →
             ∃ x c, t.booking? h = some x ∧ x.placement = .placed y a c ∧ e ≤ c ∧ c ≤ after ∧
               (∀ at_, e ≤ at_ → at_ < c → conflict at_ = false) ∧ (c < after → conflict c = true)) ∧
           (e = before → after < e → after ≤ s.time.seconds → s.time.clockSet = true → (∀ c f, b.items.overrun ≠ .opened c f) →
             (b.accurate = false ∨ b.flags.timedFallback = true ∨ b.items.runningAt = none) →
             t.stopsAs s { b with placement := .placed y a after } .schedule false)))) ∧
      ((b.state = .pending ∨ b.state = .armed) →
        (let cleared := b.accurate = true ∧ accurate = false
         let x := { b with
           priority := priority, prePad := prePad, postPad := postPad, accurate := accurate, replan := true
           state := if b.state = .armed ∧ (cleared ∨ s.time.seconds < b.nominalStart - prePad) then .pending else b.state
           items := if cleared then { b.items with report := none, candidate := none }
             else if b.state = .armed ∧ s.time.seconds < b.nominalStart - prePad then { b.items with candidate := none } else b.items }
         let missed := b.state = .pending ∧ s.time.clockSet = true ∧ b.placement.isUnplaced = true ∧
           min (b.nominalStop + postPad) maxU32 ≤ s.time.seconds
         (adjusted (o.accurate.getD false && !s.mainCapable b) →
           t.awaits (.booked .clamped h (some ⟨priority, prePad, postPad, accurate⟩))) ∧
         (¬ adjusted (o.accurate.getD false && !s.mainCapable b) → t.awaits (.booked .ok h none)) ∧
         (missed → t.finishedAs s x ⟨.missed, .clash⟩ false) ∧
         (¬ missed → t.booking? h = some x ∧ (∀ k, k ≠ h → t.booking? k = s.booking? k) ∧
           ({ x with replan := b.replan } ≠ b → t.tells x) ∧
           t.time = s.time ∧ t.catalogue = s.catalogue ∧ t.guide = s.guide ∧ t.links = s.links ∧ t.orders = s.orders ∧
           t.monitor = s.monitor ∧ t.wake = s.wake ∧ t.storage = s.storage ∧ t.link.settings = s.link.settings))))

/-- CANCEL: a booking in Pending or Armed, or Due with its Start undelivered, finishes Cancelled (Request); one in Due with its Start
delivered, or Recording, goes to Stopping with cause Cancel and a Stop order; either way the reply waits for a pass. In Stopping and Finished
it is refused with StateMismatch, and a handle without record with NotFound. -/
def Obligations.CancelStopsOrFinishes : Prop :=
  ∀ (tag : Byte) (body : List Byte) (h : Nat) (s : State), parseWord body = .ok h → s.takes ⟨tag, 0x2B, body⟩ → s.tablesHold →
    ∃ t, exec (.cancel tag body) s = .next t ∧ t.time = s.time ∧ t.catalogue = s.catalogue ∧ t.guide = s.guide ∧
      t.link.settings = s.link.settings ∧
      (s.booking? h = none → t.unchanged s ∧ t.replies ⟨tag, 0x2B, body⟩ .notFound .code) ∧
      (∀ b, s.booking? h = some b →
        ((b.state = .stopping ∨ b.state = .finished) → t.unchanged s ∧ t.replies ⟨tag, 0x2B, body⟩ .stateMismatch .code) ∧
        ((b.state = .pending ∨ b.state = .armed ∨ (b.state = .due ∧ s.holdsDelivered h .start = false)) →
          t.finishedAs s b ⟨.cancelled, .request⟩ false ∧ t.awaits (.done .ok (.lifecycle .finished))) ∧
        ((b.state = .recording ∨ (b.state = .due ∧ s.holdsDelivered h .start = true)) →
          t.stopsAs s b .cancel false ∧
          t.awaits (.done .ok (.lifecycle .stopping))))

/-- PURGE removes a Finished record, or under All every Finished record, and is refused with NotFound or StateMismatch; PURGE_AGE_REACHED
removes a Finished record whose age has passed. Every Starved link is retried after a removal (R76), and a pass comes when a retry asks for
one; with no Starved link nothing else changes and no pass starts. -/
def Obligations.FinishedRecordsAreRemoved : Prop :=
  (∀ (tag : Byte) (body : List Byte) (h : Nat) (s : State), parseWord body = .ok h → s.takes ⟨tag, 0x2C, body⟩ →
    ∃ t, exec (.purge tag body) s = .next t ∧
      (h = 0 → t.answers ⟨tag, 0x2C, body⟩ .ok (.count (s.book.records.filter fun b => b.state = .finished).length)) ∧
      (h ≠ 0 → s.booking? h = none → t.unchanged s ∧ t.replies ⟨tag, 0x2C, body⟩ .notFound .code) ∧
      (∀ b, h ≠ 0 → s.booking? h = some b → b.state ≠ .finished →
        t.unchanged s ∧ t.replies ⟨tag, 0x2C, body⟩ .stateMismatch .code) ∧
      (∀ b, h ≠ 0 → s.booking? h = some b → b.state = .finished → t.answers ⟨tag, 0x2C, body⟩ .ok .code) ∧
      (let removed := s.setBook { s.book with records := s.book.records.filter fun b =>
         if h = 0 then b.state ≠ .finished else b.handle ≠ h }
       ((if h = 0 then ∃ b ∈ s.book.records, b.state = .finished else ∃ b, s.booking? h = some b ∧ b.state = .finished) →
         t.core = removed.retryStarved.core ∧ t.surrounds s ∧
         (removed.retryStarved.planner.triggered = true → t.passComes) ∧
         ((∀ l ∈ s.links, l.starved = false) → t.planner = s.planner ∧ t.becomes removed)) ∧
       (h = 0 → (∀ b ∈ s.book.records, b.state ≠ .finished) → t.unchanged s))) ∧
  (∀ (h : Nat) (b : Booking) (at_ : Nat) (s : State), s.lines.resetn = true → s.planner.triggered = false → s.booking? h = some b →
    s.time.clockSet = true → b.state = .finished → b.finishedAt = some at_ → at_ + s.link.settings.purgeAge * 3600 ≤ s.time.seconds →
    ∃ t, exec (.purgeAgeReached h) s = .next t ∧
      (let removed := s.setBook { s.book with records := s.book.records.filter fun b => b.handle ≠ h }
       t.core = removed.retryStarved.core ∧ t.surrounds s ∧
       (removed.retryStarved.planner.triggered = true → t.passComes) ∧
       ((∀ l ∈ s.links, l.starved = false) → t.planner = s.planner ∧ t.becomes removed)))

/-! ## Links (R66 to R81) -/

/-- LINK_SERIES and LINK_SLOT: a valid link takes the lowest free index with the values given, clamped, and the defaults for the others,
and an empty history or occurrence list; the other links stand; a series link is matched in full, a slot link instantiated while the clock
is set; the reply carries the index and the bookings created, Clamped with the stored values when one given was adjusted. Wrong fields are refused with BadField, a link that stands already with
Duplicate, a 49th link with NoSpace. Matching: a link offered an event creates a booking on it, adds it to the alternatives of its chief or
switches its chief to it, by R71 and R72 (log 49); a booking switched opens on the placement of the pass that follows (log 38), its old main
event after the alternatives of the same start (log 40); a creation refused marks the link Starved, and a Starved link is retried in full. Instantiation:
entries outside the eight days go, each day of the mask whose occurrence lies ahead gets an entry, with the booking that stands at its
start or a new one. -/
def Obligations.LinksAreMade : Prop :=
  (∀ (tag : Byte) (body : List Byte) (f : SeriesFields) (o : Options) (s : State), parseLinkSeries body = .ok (f, o) →
    s.takes ⟨tag, 0x30, body⟩ →
    ∃ t, exec (.linkSeries tag body) s = .next t ∧ t.surrounds s ∧
      ((f.tag = 0 ∨ ∃ v, f.service = some v ∧ findService s.catalogue.services v = none) →
        t.unchanged s ∧ t.replies ⟨tag, 0x30, body⟩ .badField .code) ∧
      (f.tag ≠ 0 → (∀ v, f.service = some v → (findService s.catalogue.services v).isSome = true) →
        (∀ l, (s.links.find? fun l => l.sameSeries f.tag f.service) = some l →
          t.unchanged s ∧ t.replies ⟨tag, 0x30, body⟩ .duplicate (.duplicate l.index)) ∧
        ((∀ l ∈ s.links, l.sameSeries f.tag f.service = false) → firstFree (s.links.map (·.index)) 0 48 = none →
          t.unchanged s ∧ t.replies ⟨tag, 0x30, body⟩ .noSpace .code) ∧
        ((∀ l ∈ s.links, l.sameSeries f.tag f.service = false) → ∀ i, firstFree (s.links.map (·.index)) 0 48 = some i →
          (let made : Link := ⟨i, min (o.priority.getD 8) 15, min (o.prePad.getD s.link.settings.prePadDefault) 3600,
             min (o.postPad.getD s.link.settings.postPadDefault) 7200, o.accurate.getD false, false,
             .series f.tag f.service f.policy []⟩
           let m := (s.setLinks (insertBy (fun x y => decide (x.index < y.index)) made s.links)).fullMatch i
           let adjusted := 15 < o.priority.getD 0 ∨ 3600 < o.prePad.getD 0 ∨ 7200 < o.postPad.getD 0
           t.link? i = some { made with starved := m.refused } ∧
            (∀ k, k ≠ i → t.link? k = s.link? k) ∧ t.core = m.state.core ∧
            (adjusted → t.answers ⟨tag, 0x30, body⟩ .clamped (.linkMade i m.created m.refused
              (some ⟨made.priority, made.prePad, made.postPad, made.accurate⟩))) ∧
            (¬ adjusted → t.answers ⟨tag, 0x30, body⟩ .ok (.linkMade i m.created m.refused none)))))) ∧
  (∀ (tag : Byte) (body : List Byte) (f : SlotFields) (o : Options) (s : State), parseLinkSlot body = .ok (f, o) →
    s.takes ⟨tag, 0x31, body⟩ →
    ∃ t, exec (.linkSlot tag body) s = .next t ∧ t.surrounds s ∧
      ((findService s.catalogue.services f.service = none ∨ f.weekdays = 0#7 ∨ 1439 < f.minute ∨ f.duration < 60 ∨ 86400 < f.duration) →
        t.unchanged s ∧ t.replies ⟨tag, 0x31, body⟩ .badField .code) ∧
      ((findService s.catalogue.services f.service).isSome = true → f.weekdays ≠ 0#7 → f.minute ≤ 1439 → 60 ≤ f.duration →
        f.duration ≤ 86400 →
        (∀ l, (s.links.find? fun l => l.sameSlot f) = some l →
          t.unchanged s ∧ t.replies ⟨tag, 0x31, body⟩ .duplicate (.duplicate l.index)) ∧
        ((∀ l ∈ s.links, l.sameSlot f = false) → firstFree (s.links.map (·.index)) 0 48 = none →
          t.unchanged s ∧ t.replies ⟨tag, 0x31, body⟩ .noSpace .code) ∧
        ((∀ l ∈ s.links, l.sameSlot f = false) → ∀ i, firstFree (s.links.map (·.index)) 0 48 = some i →
          (let made : Link := ⟨i, min (o.priority.getD 8) 15, min (o.prePad.getD s.link.settings.prePadDefault) 3600,
             min (o.postPad.getD s.link.settings.postPadDefault) 7200, false, false,
             .slot f.service f.weekdays f.minute f.duration []⟩
           let m := (s.setLinks (insertBy (fun x y => decide (x.index < y.index)) made s.links)).instantiate i false
           let adjusted := 15 < o.priority.getD 0 ∨ 3600 < o.prePad.getD 0 ∨ 7200 < o.postPad.getD 0 ∨ o.accurate = some true
           (∃ occurrences, t.link? i = some { made with
               starved := m.refused, part := .slot f.service f.weekdays f.minute f.duration occurrences } ∧
             (s.time.clockSet = false → occurrences = [] ∧ m.created = 0 ∧ t.book = s.book)) ∧
            (∀ k, k ≠ i → t.link? k = s.link? k) ∧ t.core = m.state.core ∧
            (adjusted → t.answers ⟨tag, 0x31, body⟩ .clamped (.linkMade i m.created m.refused
              (some ⟨made.priority, made.prePad, made.postPad, made.accurate⟩))) ∧
            (¬ adjusted → t.answers ⟨tag, 0x31, body⟩ .ok (.linkMade i m.created m.refused none)))))) ∧
  (∀ (l : Link) (e : Event) (s : State), s.link? l.index = some l →
    (let m := s.matchOne l.index e
     let nothing : Matched := ⟨s, false, 0⟩
     (∀ service weekdays minute duration occurrences, l.part = .slot service weekdays minute duration occurrences → m = nothing) ∧
     (∀ tag service policy history, l.part = .series tag service policy history →
       (let offered := e.tag = some tag ∧ (service = none ∨ service = some e.service) ∧
          (s.time.clockSet = true → s.time.seconds < e.start + e.duration) ∧ 60 ≤ e.duration ∧
          ∀ b ∈ s.book.records, b.state ≠ .finished → b.main ≠ some ⟨e.service, e.id⟩
        (¬ offered → m = nothing) ∧
        (offered → (policy = .all ∨ e.key = none) → m = s.createOnEvent l e) ∧
        (∀ key, offered → policy = .newOnly → e.key = some key →
          (key ∈ history → m = nothing) ∧
          (key ∉ history → s.chief l.index key = none → m = s.createOnEvent l e) ∧
          (∀ c, key ∉ history → s.chief l.index key = some c →
            ((c.state = .pending ∨ c.state = .armed) → c.nominalStart ≤ e.start → m = ⟨s.addAlternative c e, false, 0⟩) ∧
            (c.state = .pending → e.start < c.nominalStart → m = ⟨s.switchAiring c e, false, 0⟩) ∧
            ((c.state = .due ∨ c.state = .recording ∨ c.state = .stopping ∨ (c.state = .armed ∧ e.start < c.nominalStart)) →
              m = nothing))))))) ∧
  (∀ (index key : Nat) (s : State),
    (let group := fun (b : Booking) => b.state ≠ .finished ∧ b.origin = .series index ∧ b.key = some key
     (s.chief index key = none ↔ ∀ b ∈ s.book.records, ¬ group b) ∧
     (∀ c, s.chief index key = some c → c ∈ s.book.records ∧ group c ∧ ∀ b ∈ s.book.records, group b →
       c.nominalStart < b.nominalStart ∨ (c.nominalStart = b.nominalStart ∧ c.handle ≤ b.handle)))) ∧
  (∀ (l : Link) (e : Event) (s : State), s.link? l.index = some l → s.tablesHold →
    (let m := s.createOnEvent l e
     (128 ≤ s.book.records.length → m.refused = true ∧ m.created = 0 ∧ m.state.book = s.book ∧
       (l.starved = true → m.state = s) ∧
       (l.starved = false → m.state.links = (s.links.map fun k => if k.index = l.index then { k with starved := true } else k) ∧
         m.state.notices = offerTo s.link.settings.noticeMask ⟨.seriesFull l.index, s.time.seconds⟩ s.notices)) ∧
     (s.book.records.length < 128 → m.refused = false ∧ m.created = 1 ∧ m.state.planner.triggered = true ∧ m.state.links = s.links ∧
       ∃ h b, s.booking? h = none ∧ m.state.booking? h = some b ∧
         b.origin = (match l.part with
           | .series _ _ _ _ => .series l.index
           | .slot _ _ _ _ _ => .slot l.index) ∧
         b.service = e.service ∧ b.main = some ⟨e.service, e.id⟩ ∧ b.tag = e.tag ∧ b.key = e.key ∧ b.nominalStart = e.start ∧
         b.nominalStop = e.start + e.duration ∧ b.priority = l.priority ∧ b.prePad = l.prePad ∧ b.postPad = l.postPad ∧
         b.accurate = (l.accurate && e.capable) ∧ b.alternatives = [] ∧ b.state = .pending ∧ b.placement = .unplaced .none ∧
         b.flags = .clear ∧ b.items = .empty ∧
         (∀ k, k ≠ h → m.state.booking? k = (s.booking? k).map fun x => if x.state ≠ .finished then { x with
           alternatives := x.alternatives.filter fun a => !(a.service == e.service && a.id == e.id) } else x) ∧
         (s.link.settings.noticeMask.getLsbD 2 = true →
           m.state.notices.lost = true ∨ ∃ n ∈ m.state.notices.queue, n.body = .seriesBooked l.index h)))) ∧
  (∀ (b : Booking) (e : Event) (s : State), s.tablesHold → s.booking? b.handle = some b →
    (let t := s.addAlternative b e
     let listed := ∃ a ∈ b.alternatives, a.service = e.service ∧ a.id = e.id
     (listed ∨ 4 ≤ b.alternatives.length → t = s) ∧
     (¬ listed → b.alternatives.length < 4 →
       (let x := { b with alternatives := insertAlternative ⟨e.service, e.id, e.start, e.start + e.duration⟩ b.alternatives }
        t.booking? b.handle = some x ∧ t.tells x ∧ t.planner.triggered = true ∧ ∀ k, k ≠ b.handle → t.booking? k = s.booking? k))) ∧
    (let t := s.switchAiring b e
     let rest := b.alternatives.filter fun a => !(a.service == e.service && a.id == e.id)
     let x := { b with
       main := some ⟨e.service, e.id⟩, service := e.service, nominalStart := e.start, nominalStop := e.start + e.duration
       tag := e.tag, key := e.key
       alternatives := match b.main with
         | some m => if rest.length < 4 then insertAlternative ⟨m.service, m.id, b.nominalStart, b.nominalStop⟩ rest else rest
         | none => rest
       items := { b.items with report := none, candidate := none }, replan := true }
     t.booking? b.handle = some x ∧ t.tells x ∧ t.planner.triggered = true ∧ ∀ k, k ≠ b.handle → t.booking? k = s.booking? k)) ∧
  (∀ (l : Link) (s : State), s.link? l.index = some l →
    (let m := s.matchAll l.index (s.guide.filter l.carries)
     s.fullMatch l.index = ⟨m.state.setLinks (m.state.links.map fun k =>
       if k.index = l.index then { k with starved := m.refused } else k), m.refused, m.created⟩) ∧
    (∀ e rest, s.matchAll l.index (e :: rest) =
      (let first := s.matchOne l.index e
       let more := first.state.matchAll l.index rest
       ⟨more.state, first.refused || more.refused, first.created + more.created⟩)) ∧
    s.matchAll l.index [] = ⟨s, false, 0⟩ ∧
    s.retryStarved = (s.links.filter fun k => k.starved).foldl (fun u k => match u.link? k.index with
      | some ⟨_, _, _, _, _, _, .series _ _ _ _⟩ => (u.fullMatch k.index).state
      | some ⟨_, _, _, _, _, _, .slot _ _ _ _ _⟩ => (u.instantiate k.index false).state
      | none => u) s) ∧
  (∀ (l : Link) (service : Nat) (weekdays : BitVec 7) (minute duration : Nat) (old : List Occurrence) (s : State), s.tablesHold →
    s.link? l.index = some l → l.part = .slot service weekdays minute duration old →
    (let m := s.instantiate l.index false
     let today := ((s.time.seconds : Int) + 60 * s.time.zone) / 86400
     let near := fun (d : Int) => today ≤ d ∧ d ≤ today + 7
     let start := fun (d : Int) (u : Nat) => weekdays.getLsbD ((d + 5) % 7).toNat = true ∧
       toUtc s.time.zone s.time.nextChange d minute = some u ∧ s.time.seconds < u ∧ u + duration ≤ maxU32
     (s.time.clockSet = false → m = ⟨s, false, 0⟩) ∧
     (s.time.clockSet = true →
       m.state.book.records.length = s.book.records.length + m.created ∧ (0 < m.created → m.state.planner.triggered = true) ∧
       (∀ b, s.booking? b.handle = some b → m.state.booking? b.handle = some b) ∧
       ∃ occurrences, m.state.link? l.index = some { l with
           starved := m.refused, part := .slot service weekdays minute duration occurrences } ∧
         (∀ o ∈ occurrences, near o.day) ∧ (∀ o ∈ old, near o.day → o ∈ occurrences) ∧
         (∀ d u, near d → start d u → (∃ o ∈ occurrences, o.day = d) ∨ (m.refused = true ∧ 128 ≤ m.state.book.records.length)) ∧
         (∀ o ∈ occurrences, o ∉ old → ∃ b u, start o.day u ∧ m.state.booking? o.handle = some b ∧ b.origin = .slot l.index ∧
           b.nominalStart = u ∧ b.state ≠ .finished ∧
           (s.booking? o.handle = none → b.nominalStop = u + duration ∧ b.service = service ∧ b.main = none ∧ b.accurate = false ∧
             b.priority = l.priority ∧ b.prePad = l.prePad ∧ b.postPad = l.postPad ∧ b.state = .pending ∧
             b.placement = .unplaced .none)))))

/-- UNLINK frees the index and no record names the link any more; without Keep the Pending and Armed bookings of the link are Cancelled
(Unlinked), with Keep they stand with origin Event or Time and no alternatives, told when they had any; the cancellations come first, then
the new origins, each in ascending handle (log 39). The reply carries the numbers cancelled and kept, of the unfinished bookings (log 37). It is refused with BadField above 47 and with NotFound at a free index. -/
def Obligations.UnlinkFreesTheIndex : Prop :=
  ∀ (tag : Byte) (body : List Byte) (i : Nat) (keep : Bool) (s : State), parseUnlink body = .ok (i, keep) →
    s.takes ⟨tag, 0x32, body⟩ → s.tablesHold →
    ∃ t, exec (.unlink tag body) s = .next t ∧ t.surrounds s ∧
      (47 < i → t.unchanged s ∧ t.replies ⟨tag, 0x32, body⟩ .badField .code) ∧
      (i ≤ 47 → s.link? i = none → t.unchanged s ∧ t.replies ⟨tag, 0x32, body⟩ .notFound .code) ∧
      (i ≤ 47 → (s.link? i).isSome = true →
        t.link? i = none ∧ (∀ b ∈ t.book.records, b.origin ≠ .series i ∧ b.origin ≠ .slot i) ∧
        (∀ b, s.booking? b.handle = some b → (b.origin = .series i ∨ b.origin = .slot i) →
          ∃ x, t.booking? b.handle = some x ∧ x.alternatives = [] ∧
            x.origin = (if b.origin = .series i then .event else .time) ∧
            (keep = false → (b.state = .pending ∨ b.state = .armed) → x.state = .finished ∧ x.verdict = some ⟨.cancelled, .unlinked⟩ ∧
              t.tellsFinish b ⟨.cancelled, .unlinked⟩) ∧
            (x.state ≠ .finished → b.alternatives ≠ [] → t.tells x) ∧
            ((keep = true ∨ (b.state ≠ .pending ∧ b.state ≠ .armed)) → x.state = b.state ∧ x.main = b.main ∧
              x.nominalStart = b.nominalStart ∧ x.nominalStop = b.nominalStop ∧ x.priority = b.priority ∧ x.accurate = b.accurate ∧
              x.verdict = b.verdict)) ∧
        (let ofLink := fun (b : Booking) => b.origin == .series i || b.origin == .slot i
         let unfinished := (s.book.records.filter fun b => ofLink b && b.state != .finished).length
         let gone := if keep = true then 0 else
           (s.book.records.filter fun b => ofLink b && (b.state == .pending || b.state == .armed)).length
         t.answers ⟨tag, 0x32, body⟩ .ok (.unlinked gone (unfinished - gone)) ∧
         (let cancelled := if keep = true then [] else
            (s.book.records.filter fun b => ofLink b && (b.state == .pending || b.state == .armed)).map (·.handle)
          let closed := cancelled.foldl (fun u h => u.finish h ⟨.cancelled, .unlinked⟩ false) s
          t.core = ((((closed.book.records.filter ofLink).map (·.handle)).foldl State.rewriteOrigin closed).setLinks
            (closed.links.filter fun l => l.index ≠ i)).core)))

/-! ## Passes (R84 to R105) -/

/-- PASS_END: the results that stand are written as the pass computed them from its inputs of T₀, with the alternative it chose: main
event, service, window, tag and key of that (absent where its event is gone: log 47, the model's choice), the old main event in its place, Moved, the report record gone. An
Armed booking ranked and left Unplaced, or placed on an alternative, returns to Pending without its candidate and is told; any other stays
so. A booking written Unplaced leaves the abandon list. A booking changed since keeps its placement. A claim result that stands becomes
its owner's effective end. The plan and the clash list are those of the records so written (log 22): one occupancy a placed booking and one
for the live placement, empty or not, in ascending start, with the multiplex of the service the record names, as read at T₀ or, for a
service made since, as it stands (log 62, the model's choice for a booking whose service changed); one clash a booking left Unplaced, in ascending nominal start, with its first six
rivals in rank order at T₀. The notices of R105 compare each booking whose result stands, and each pinned at T₀ and now, in ascending handle
(a Moved taken while the pass was Running is told at its end: log 57), with the placement written before, the clash notice first (log 42);
overrun results, openings and live placement are handed on in the order of R89 (log 60), then due instant and storage are evaluated. A late
placement is marked (log 18), the mark of changed times cleared (log 38). A held reply is released or counted; what it waited to carry is
read now (log 13), and begins if CTS is asserted. The step hold counts; when it clears, each placed Pending booking is tested
for opening; with the re-pass flag, or a trigger given at this end (log 5), a further pass starts, on inputs as they stand now. Bookings tested or opened together go in ascending handle (log 39). A live placement handed (log 58) arrives on a
tuner that is in use after it, which retunes for another multiplex (log 23); a tuner left without an item goes out of use, without a retune.
YIELD_TIME_REACHED (logs 20, 50) triggers: from Idle a pass starts at now, while Running the re-pass flag is set. -/
def Obligations.PassEnds : Prop :=
  (∀ (p : Pass) (s : State), s.lines.resetn = true → s.tablesHold → s.planner.running = some p →
    ∃ t, exec .passEnd s = .next t ∧ t.time = s.time ∧ t.catalogue = s.catalogue ∧ t.guide = s.guide ∧
      t.link.settings = s.link.settings ∧ t.planner.lastT0 = some p.t0 ∧ t.planner.repass = false ∧
      (∀ q, t.planner.running = some q → q = {
        t0 := s.time.seconds, bookings := t.book.records.filter fun b => b.state ≠ .finished, muxes := s.catalogue.muxes
        services := s.catalogue.services, live := t.monitor.live.map fun c => (c.mux, c.named), latchA := t.monitor.a.faultLatch
        latchB := t.monitor.b.faultLatch, feedMode := s.link.settings.feedMode, liveRank := s.link.settings.liveRank
        changed := [], liveChanged := false }) ∧
      (∀ b r, s.booking? b.handle = some b → (b.state = .pending ∨ b.state = .armed) → b.handle ∉ p.changed →
        (p.run.bookings.find? fun r => r.handle == b.handle) = some r →
        ∃ x, t.booking? b.handle = some x ∧ x.placement = r.placement ∧ x.written = some r.placement ∧ x.late = r.late ∧
          x.replan = false ∧ x.flags.paddingTrimmed = r.trimmed.getD b.flags.paddingTrimmed ∧
          (∀ a, r.choice = some a → x.main = some ⟨a.service, a.id⟩ ∧ x.service = a.service ∧ x.nominalStart = a.start ∧
            x.nominalStop = a.stop ∧ x.flags.moved = true ∧ x.items.report = none ∧ x.items.candidate = none ∧
            x.tag = (findEvent s.guide ⟨a.service, a.id⟩).bind (·.tag) ∧ x.key = (findEvent s.guide ⟨a.service, a.id⟩).bind (·.key) ∧
            (let rest := b.alternatives.filter fun y => !(y.service == a.service && y.id == a.id)
             (b.main = none → x.alternatives = rest) ∧
             ∀ m, b.main = some m → rest.length < 4 →
               x.alternatives = insertAlternative ⟨m.service, m.id, b.nominalStart, b.nominalStop⟩ rest)) ∧
          (r.choice = none → x.main = b.main ∧ x.service = b.service ∧ x.nominalStart = b.nominalStart ∧
            x.nominalStop = b.nominalStop ∧ x.alternatives = b.alternatives) ∧
          (b.state = .armed →
            (r.ranked = true → r.placement.isUnplaced = true → x.state = .pending ∧ x.items.candidate = none ∧ t.tells x) ∧
            (r.ranked = true → r.choice ≠ none → (x.state = .pending ∨ x.state = .due) ∧ t.tells x ∧
              ((∀ y c e, r.placement = .placed y c e → s.time.seconds < c) → x.state = .pending)) ∧
            ((r.ranked = false ∨ (r.placement.isUnplaced = false ∧ r.choice = none)) →
              x.state = .armed ∧ (r.choice = none → x.items.candidate = b.items.candidate)))) ∧
      (∀ b r c f y a e, s.booking? b.handle = some b → b.state = .recording → b.items.overrun = .opened c f →
        b.placement = .placed y a e → (p.run.claims.find? fun r => r.handle == b.handle && r.stop == f) = some r →
        ∃ x, t.booking? b.handle = some x ∧ x.placement = .placed y a r.newEnd ∧
          (r.full = true → x.state = .recording ∧ x.items.overrun = .full) ∧
          (r.full = false → s.time.seconds < r.newEnd → x.state = .recording ∧ x.items.overrun = .truncated) ∧
          (r.full = false → r.newEnd ≤ s.time.seconds →
            x.state = .stopping ∧ x.stopCause = some .overrun ∧ x.flags.truncated = true ∧ t.tells x)) ∧
      (∀ b, s.booking? b.handle = some b → (b.state = .pending ∨ b.state = .armed) → b.handle ∈ p.changed →
        ∃ x, t.booking? b.handle = some x ∧ x.placement = b.placement ∧ x.written = b.written) ∧
      (let live := if p.liveChanged = true then s.monitor.live.bind (·.placement) else p.run.live
       (∀ o, o ∈ t.planner.plan ↔
         (∃ b e, b ∈ t.book.records ∧ b.state ≠ .finished ∧ b.placement = .placed o.tuner o.start e ∧
           o = ⟨o.tuner, muxOf (p.services ++ s.catalogue.services) b.service, o.start, some e, .booking, b.handle⟩) ∨
         (∃ l, live = some l ∧ o = ⟨l.tuner, l.mux, l.start, l.stop, .live, 0⟩)) ∧
       t.planner.plan.Pairwise (fun x y => x.start < y.start ∨ (x.start = y.start ∧ x.handle ≤ y.handle)) ∧
       (p.liveChanged = true → t.monitor.live = s.monitor.live) ∧
       (∀ l c, p.liveChanged = false → p.run.live = some l → s.monitor.live = some c →
         t.monitor.live = some { c with placement := some l })) ∧
      ((∀ c ∈ t.planner.clashes, ∃ b ∈ t.book.records, b.state ≠ .finished ∧ b.placement = .unplaced c.causes ∧ c.handle = b.handle ∧
          c.start = b.nominalStart ∧ c.stop = b.nominalStop ∧ c.blockers.length ≤ 6 ∧
          (let meets := fun (x : Booking) => ∃ y a e, x.placement = .placed y a e ∧ a < b.nominalStop ∧ b.nominalStart < e
           (∀ k ∈ c.blockers, ∃ x ∈ t.book.records, x.handle = k ∧ meets x) ∧
           (∀ x ∈ t.book.records, meets x → x.handle ∈ c.blockers ∨ (c.blockers.length = 6 ∧
             ∀ y ∈ t.book.records, y.handle ∈ c.blockers → (p.rankOf y).before (p.rankOf x) = true)))) ∧
        (∀ b ∈ t.book.records, b.state ≠ .finished → b.placement.isUnplaced = true → (∃ x ∈ p.bookings, x.handle = b.handle) →
          b.handle ∈ t.planner.clashes.map (·.handle)) ∧
        t.planner.clashes.Pairwise (fun x y => x.start < y.start ∨ (x.start = y.start ∧ x.handle ≤ y.handle))) ∧
      (∀ k, s.orders.stepHold = some (k + 2) → t.orders.stepHold = some (k + 1)) ∧
      (s.orders.stepHold = some 1 → t.orders.stepHold = none ∧
        (s.time.clockSet = true → ∀ b ∈ t.book.records, ∀ x a e, b.state = .pending → b.replan = false →
          b.placement = .placed x a e → s.time.seconds < a)) ∧
      (let written := s.standing p p.run.bookings
       let claims := s.standingClaims p.run.claims
       let ended := ((((claims.foldl State.applyClaim (s.writePass p p.run)).openAtPassEnd written).handLiveResult p
         p.run.live).evaluateWake.evaluateStorage)
       t.core = ended.core ∧ (t.passComes ↔ s.planner.repass = true ∨ ended.planner.triggered = true)) ∧
      (∀ k plan, s.link.phase = .holding (k + 2) plan → t.link.phase = .holding (k + 1) plan) ∧
      (∀ r d f rest, s.link.phase = .holding 1 (.done r d) → s.link.requests = f :: rest → t.replies f r d) ∧
      (∀ r h stored f rest, s.link.phase = .holding 1 (.booked r h stored) → s.link.requests = f :: rest →
        ∀ x, t.booking? h = some x → t.replies f r (.placement h x.state x.placement stored)) ∧
      (∀ f rest, s.link.phase = .holding 1 .live → s.link.requests = f :: rest →
        t.replies f .ok (.livePlacement (t.monitor.live.bind (·.placement)))) ∧
      (∀ before forced f rest, s.link.phase = .holding 1 (.standby before forced) → s.link.requests = f :: rest →
        t.replies f .ok (.standby before t.wake.host forced t.wake.due t.wake.wakeAt)) ∧
      (∀ plan f rest, s.link.phase = .holding 1 plan → s.link.requests = f :: rest →
        t.link.txBegun = s.lines.cts ∧ t.link.txSent = 0)) ∧
  (∀ (b : Booking) (r : BookingResult) (s : State), s.tablesHold → s.booking? r.handle = some b →
    (let t := s.writeResult r
     (r.placement.isUnplaced = true → t.wake = { s.wake with abandon := s.wake.abandon.filter fun h => h ≠ r.handle }) ∧
     (r.placement.isUnplaced = false → t.wake = s.wake) ∧ (∀ k, k ≠ r.handle → t.booking? k = s.booking? k) ∧
     t.orders = s.orders ∧ t.monitor = s.monitor ∧ t.guide = s.guide ∧ t.planner = s.planner)) ∧
  (∀ (p : Pass) (r : PassResult) (s : State), s.tablesHold →
    (let pinned := fun (b : Booking) => b.state == .due || b.state == .recording || b.state == .stopping
     let compared := s.book.records.filterMap fun b =>
       if (b.state == .pending || b.state == .armed) && !p.changed.contains b.handle then
         (r.bookings.find? fun x => x.handle == b.handle).map fun x => (b.handle, x.choice.isSome)
       else if pinned b && p.bookings.any (fun x => x.handle == b.handle && pinned x) then some (b.handle, false) else none
     let laid := ((s.standingClaims r.claims).foldl State.writeClaim ((s.standing p r.bookings).foldl State.writeResult s)).setPlanner
       (s.writePass p r).planner
     s.writePass p r = compared.foldl (fun u x => u.compareWritten x.1 x.2) laid)) ∧
  (∀ (b : Booking) (chosen : Bool) (s : State), s.booking? b.handle = some b →
    (let offered := fun (n : NoticeBody) (q : NoticeQueue) => offerTo s.link.settings.noticeMask ⟨n, s.time.seconds⟩ q
     let clash := match b.written, b.placement with
       | none, .unplaced c => offered (.clashFound b.handle c) s.notices
       | some (.placed _ _ _), .unplaced c => offered (.clashFound b.handle c) s.notices
       | some (.unplaced _), .placed x a e => offered (.clashCleared b.handle x a e) s.notices
       | _, _ => s.notices
     let moved := ∃ x a e y c f, b.written = some (.placed x a e) ∧ b.placement = .placed y c f ∧ ¬ (x = y ∧ a = c ∧ e = f)
     let t := s.compareWritten b.handle chosen
     ((chosen = true ∨ moved) → t.notices = offered (.bookingState b.handle ⟨b.state, b.placement, b.verdict, .none⟩) clash) ∧
     (¬ (chosen = true ∨ moved) → t.notices = clash) ∧
     t.core = ((s.setBook { s.book with records := s.book.records.map fun x =>
       if x.handle = b.handle then { x with written := some x.placement } else x }).setNotices t.notices).core)) ∧
  (∀ (b : Booking) (r : ClaimResult) (s : State), s.tablesHold → s.booking? r.handle = some b → b.state = .recording →
    (let t := s.applyClaim r
     (r.full = true → t.booking? r.handle = some { b with items := { b.items with overrun := .full } } ∧ t.orders = s.orders) ∧
     (r.full = false → s.time.seconds < r.newEnd →
       t.booking? r.handle = some { b with items := { b.items with overrun := .truncated } } ∧ t.orders = s.orders) ∧
     (r.full = false → r.newEnd ≤ s.time.seconds → t.stopsAs s b .overrun true))) ∧
  (∀ (l : LivePlacement) (s : State), (s.monitor.live = none → s.handLive l = s) ∧
    ∀ c, s.monitor.live = some c →
      (let told := if (c.placement.bind (·.yieldAt)) = l.yieldAt then s.notices else
         offerTo s.link.settings.noticeMask ⟨.liveYield l.tuner l.mux l.yieldAt, s.time.seconds⟩ s.notices
       let held := (s.setNotices told).setMonitor { s.monitor with live := some { c with placement := some l } }
       ((∃ q, c.placement = some q ∧ q.tuner = l.tuner ∧ q.mux = l.mux) → s.handLive l = held.evaluateTuners) ∧
       ((∀ q, c.placement = some q → ¬ (q.tuner = l.tuner ∧ q.mux = l.mux)) →
         s.handLive l = (held.arrive l.tuner l.mux).evaluateTuners) ∧
       (∀ e, l.stop = some e → e ≤ l.start → s.pinnedOn l.tuner = [] → (s.tuner l.tuner).condition ≠ .unused →
         (s.handLive l).tuner l.tuner = ⟨.unused, (s.tuner l.tuner).faultLatch, true, none, none, none, none⟩ ∧
         ∀ n ∈ (s.handLive l).notices.queue, n ∈ s.notices.queue ∨ ∀ x k f m, n.body ≠ .tunerChange x k f m .retune))) ∧
  (∀ (x : TunerId) (mux : Nat) (s : State),
    (let u := s.tuner x
     let t := s.arrive x mux
     ((u.condition = .unused ∨ s.inUse x = false ∨ u.tuned = some mux) → t = s) ∧
     (u.condition ≠ .unused → s.inUse x = true → u.tuned ≠ some mux →
       (u.condition = .faulted → t = s.setTuner x { u with tuned := some mux }) ∧
       (u.condition ≠ .faulted → t.tuner x = ⟨.tuning, u.faultLatch, true, some mux, some 0, none, none⟩ ∧
         t.notices = offerTo s.link.settings.noticeMask
           ⟨.tunerChange x .tuning u.faultLatch (some mux) .retune, s.time.seconds⟩ s.notices)))) ∧
  (∀ (c : LiveClaim) (l : LivePlacement) (y : Nat) (s : State), s.lines.resetn = true → s.time.clockSet = true →
    s.monitor.live = some c → c.placement = some l → l.yieldAt = some y → y ≤ s.time.seconds → s.monitor.yieldTaken ≠ some y →
    ∃ t, exec .yieldTimeReached s = .next t ∧ t.surrounds s ∧ t.book = s.book ∧ t.orders = s.orders ∧
      t.monitor = { s.monitor with yieldTaken := some y } ∧
      (s.planner.running = none → ∃ q, t.planner.running = some q ∧ q.t0 = s.time.seconds ∧ t.planner.repass = false) ∧
      (∀ q, s.planner.running = some q → t.planner.running = some q ∧ t.planner.repass = true))

/-- A pass places its items one at a time in rank order over what is laid so far, beginning with the pinned bookings, each laid on its tuner
over [T₀, effective end) when that is not empty (R91), and with the bookings whose padded end is at or before T₀, Unplaced with an empty cause
set. The rank order (R92): Pending and Armed bookings whose padded end is after T₀ and open overrun claims, by priority, start and
handle, and the live claim before the first item of a priority below LiveRank. The kinds of conflict of R93 at an instant. The choice of
phase 1 (R96): when the whole padded window from T₀ on is free of conflict on one tuner alone, the item is placed there; when on both, on B
only if B shares its multiplex and A does not. Phase 2 (R97): with the nominal part free, the padding is trimmed to it on each tuner and the
longer window wins, then sharing, then A; with the nominal part empty, the window runs from T₀ to the first conflict or the padded end.
Phase 3 (R98): the first alternative that has not ended and places. Otherwise the booking is
Unplaced with the kinds met on either tuner (R99). An overrun claim is tested on its owner's tuner alone and ends at its first conflict
(R103), over the span from the owner's effective end at T₀ to the claim end held (log 25); the live claim, which meets the kinds other than
Slots alone, goes to the tuner named when free, else to the other when free, else to the one whose first conflict comes later,
with that as its end (R101). -/
def Obligations.TunersAreChosen : Prop :=
  (∀ p : Pass,
    (let pinned := p.bookings.filterMap fun b => match b.placement with
       | .placed x _ e => if (b.state = .due ∨ b.state = .recording ∨ b.state = .stopping) ∧ p.t0 < e then
           some (⟨x, muxOf p.services b.service, p.t0, some e, .booking, b.handle⟩ : Occupancy) else none
       | _ => none
     let missed := (p.bookings.filter fun b =>
         (b.state = .pending ∨ b.state = .armed) ∧ min (b.nominalStop + b.postPad) maxU32 ≤ p.t0).map fun b =>
       (⟨b.handle, .unplaced ⟨false, false, false, false, false⟩, false, none, none, false⟩ : BookingResult)
     p.run = p.items.foldl (fun r i => match i with
       | .booking b => p.placeBooking r b
       | .claim b x start stop => p.placeClaim r b x start stop
       | .live mux named => p.placeLiveClaim r mux named) ⟨pinned, missed, [], none⟩)) ∧
  (∀ (g : Ground) (x : TunerId) (mux t : Nat),
    (let on := fun (y : TunerId) => g.laid.filter fun o => o.tuner == y && o.carries t
     ((g.kindsAt x true mux t).slots = true ↔ 3 ≤ ((on x).filter fun o => o.kind != .live).length) ∧
     g.kindsAt x false mux t = { g.kindsAt x true mux t with slots := false } ∧
     ((g.kindsAt x true mux t).multiplex = true ↔ ∃ o ∈ on x, o.mux ≠ mux ∧ o.kind ≠ .live) ∧
     ((g.kindsAt x true mux t).quadrant = true ↔ g.feedMode = .loopThrough ∧
       ∃ o ∈ on (otherTuner x), quadrantOf g.muxes o.mux ≠ quadrantOf g.muxes mux ∧ o.kind ≠ .live) ∧
     ((g.kindsAt x true mux t).fault = true ↔
       (x = .a ∧ g.faultA = true) ∨ (x = .b ∧ (g.faultB = true ∨ (g.feedMode = .loopThrough ∧ g.faultA = true)))) ∧
     ((g.kindsAt x true mux t).live = true ↔
       ((∃ o ∈ on x, o.mux ≠ mux) ∧ ∀ o ∈ on x, o.mux ≠ mux → o.kind = .live) ∨
       (g.feedMode = .loopThrough ∧ (∃ o ∈ on (otherTuner x), quadrantOf g.muxes o.mux ≠ quadrantOf g.muxes mux) ∧
         ∀ o ∈ on (otherTuner x), quadrantOf g.muxes o.mux ≠ quadrantOf g.muxes mux → o.kind = .live)))) ∧
  (∀ (g : Ground) (t0 : Nat) (w : Trial),
    (let start := max w.padStart t0
     let free := fun x => ∀ t, start ≤ t → t < w.padStop → (g.kindsAt x true w.mux t).any = false
     (free .a → ¬ free .b → g.phase1 t0 w = some ⟨.a, start, w.padStop, false⟩) ∧
     (free .b → ¬ free .a → g.phase1 t0 w = some ⟨.b, start, w.padStop, false⟩) ∧
     (¬ free .a → ¬ free .b → g.phase1 t0 w = none) ∧
     (free .a → free .b → g.phase1 t0 w = some
       ⟨if g.shares .b w.mux start w.padStop = true ∧ g.shares .a w.mux start w.padStop = false then .b else .a,
        start, w.padStop, false⟩))) ∧
  (∀ p : Pass,
    (let order := fun (x y : RankedItem) => y.rank.priority < x.rank.priority ∨ (x.rank.priority = y.rank.priority ∧
       (x.rank.start < y.rank.start ∨ (x.rank.start = y.rank.start ∧ x.rank.handle ≤ y.rank.handle)))
     let ranked := fun (i : RankedItem) =>
       (∃ b ∈ p.bookings, (b.state = .pending ∨ b.state = .armed) ∧ p.t0 < min (b.nominalStop + b.postPad) maxU32 ∧ i = .booking b) ∨
       (∃ b ∈ p.bookings, ∃ c e x a stop, b.state = .recording ∧ b.items.overrun = .opened c e ∧ b.placement = .placed x a stop ∧
         i = .claim b x stop e)
     (p.live = none → p.items.Pairwise order ∧ ∀ i, i ∈ p.items ↔ ranked i) ∧
     (∀ mux named, p.live = some (mux, named) → ∃ first rest, p.items = first ++ .live mux named :: rest ∧
       (first ++ rest).Pairwise order ∧ (∀ i, i ∈ first ++ rest ↔ ranked i) ∧
       (∀ i ∈ first, p.liveRank ≤ i.rank.priority) ∧ (∀ i ∈ rest, i.rank.priority < p.liveRank)) ∧
     (∀ (b : Booking) (x : TunerId) (start stop : Nat),
       (RankedItem.booking b).rank = ⟨b.priority, b.nominalStart - b.prePad, b.handle⟩ ∧
       (RankedItem.claim b x start stop).rank = ⟨b.priority, start, b.handle⟩))) ∧
  (∀ (g : Ground) (t0 : Nat) (w : Trial) (x : TunerId),
    (let conflict := fun t => (g.kindsAt x true w.mux t).any = true
     let nominal := max w.nomStart t0
     (∀ t, nominal ≤ t → t < w.nomStop → conflict t → g.trimmed t0 w x = none) ∧
     (w.padStart ≤ w.nomStart → w.nomStart ≤ w.nomStop → w.nomStop ≤ t0 →
       ((w.padStop ≤ t0 ∨ conflict t0) → g.trimmed t0 w x = none) ∧
       (t0 < w.padStop → ¬ conflict t0 → ∃ e, g.trimmed t0 w x = some (t0, e) ∧ t0 < e ∧ e ≤ w.padStop ∧
         (∀ t, t0 ≤ t → t < e → ¬ conflict t) ∧ (e = w.padStop ∨ conflict e))) ∧
     ((∀ t, nominal ≤ t → t < w.nomStop → ¬ conflict t) → nominal < w.nomStop → w.padStart ≤ w.nomStart → w.nomStop ≤ w.padStop →
       ∃ a e, g.trimmed t0 w x = some (a, e) ∧ max w.padStart t0 ≤ a ∧ a ≤ nominal ∧ w.nomStop ≤ e ∧ e ≤ w.padStop ∧
         (∀ t, a ≤ t → t < e → ¬ conflict t) ∧ (a = max w.padStart t0 ∨ conflict (a - 1)) ∧ (e = w.padStop ∨ conflict e)))) ∧
  (∀ (g : Ground) (t0 : Nat) (w : Trial), g.phase2 t0 w =
    (match g.trimmed t0 w .a, g.trimmed t0 w .b with
      | none, none => none
      | some (a, e), none => some ⟨.a, a, e, true⟩
      | none, some (c, f) => some ⟨.b, c, f, true⟩
      | some (a, e), some (c, f) =>
        if f - c < e - a ∨ (f - c = e - a ∧ ¬ (g.shares .b w.mux c f = true ∧ g.shares .a w.mux a e = false)) then
          some ⟨.a, a, e, true⟩
        else some ⟨.b, c, f, true⟩) ∧
    (∀ spot, g.phase1 t0 w = some spot → g.placeTrial t0 w = some spot) ∧
    (g.phase1 t0 w = none → g.placeTrial t0 w = g.phase2 t0 w) ∧
    (∀ x mux start stop, g.shares x mux start stop = true ↔ ∃ o ∈ g.laid, o.tuner = x ∧ o.mux = mux ∧
      ∃ t, start ≤ t ∧ t < stop ∧ o.carries t = true)) ∧
  (∀ (p : Pass) (g : Ground) (b : Booking) (a : Alternative) (rest : List Alternative),
    (let trial : Trial := ⟨a.start - b.prePad, a.start, a.stop, min (a.stop + b.postPad) maxU32, muxOf p.services a.service⟩
     p.tryAlternatives g b [] = none ∧
     (a.stop ≤ p.t0 → p.tryAlternatives g b (a :: rest) = p.tryAlternatives g b rest) ∧
     (∀ spot, p.t0 < a.stop → g.placeTrial p.t0 trial = some spot → p.tryAlternatives g b (a :: rest) = some (a, spot)) ∧
     (p.t0 < a.stop → g.placeTrial p.t0 trial = none → p.tryAlternatives g b (a :: rest) = p.tryAlternatives g b rest))) ∧
  (∀ (g : Ground) (t0 : Nat) (w : Trial),
    (let from_ := if max w.nomStart t0 < w.nomStop then max w.nomStart t0 else max w.padStart t0
     let to_ := if max w.nomStart t0 < w.nomStop then w.nomStop else w.padStop
     ∀ kind ∈ ([(·.slots), (·.multiplex), (·.quadrant), (·.fault), (·.live)] : List (Causes → Bool)),
       (kind (g.causesOf t0 w) = true ↔ ∃ x t, from_ ≤ t ∧ t < to_ ∧ kind (g.kindsAt x true w.mux t) = true))) ∧
  (∀ (p : Pass) (r : PassResult) (b : Booking),
    (let g : Ground := ⟨r.laid, p.muxes, p.feedMode, p.latchA, p.latchB⟩
     let own : Trial := ⟨b.nominalStart - b.prePad, b.nominalStart, b.nominalStop, min (b.nominalStop + b.postPad) maxU32,
       muxOf p.services b.service⟩
     let late := fun (spot : Spot) (padded : Nat) => spot.start == p.t0 && decide (padded < p.t0)
     (∀ spot, g.placeTrial p.t0 own = some spot → p.placeBooking r b = { r with
       laid := r.laid ++ [⟨spot.tuner, own.mux, spot.start, some spot.stop, .booking, b.handle⟩]
       bookings := r.bookings ++ [⟨b.handle, .placed spot.tuner spot.start spot.stop, late spot own.padStart, some spot.trimmed, none,
         true⟩] }) ∧
     (∀ a spot, g.placeTrial p.t0 own = none → b.main ≠ none → p.tryAlternatives g b b.alternatives = some (a, spot) →
       p.placeBooking r b = { r with
         laid := r.laid ++ [⟨spot.tuner, muxOf p.services a.service, spot.start, some spot.stop, .booking, b.handle⟩]
         bookings := r.bookings ++ [⟨b.handle, .placed spot.tuner spot.start spot.stop, late spot (a.start - b.prePad),
           some spot.trimmed, some a, true⟩] }) ∧
     (g.placeTrial p.t0 own = none → (b.main = none ∨ p.tryAlternatives g b b.alternatives = none) →
       p.placeBooking r b = { r with
         bookings := r.bookings ++ [⟨b.handle, .unplaced (g.causesOf p.t0 own), false, none, none, true⟩] }))) ∧
  (∀ (p : Pass) (r : PassResult) (b : Booking) (x : TunerId) (start stop : Nat),
    (let g : Ground := ⟨r.laid, p.muxes, p.feedMode, p.latchA, p.latchB⟩
     let mux := muxOf p.services b.service
     let from_ := max start p.t0
     let conflict := fun t => (g.kindsAt x true mux t).any = true
     let laid := fun (e : Nat) => if from_ < e then r.laid ++ [⟨x, mux, from_, some e, .overrun, b.handle⟩] else r.laid
     ((∀ t, from_ ≤ t → t < stop → ¬ conflict t) →
       p.placeClaim r b x start stop = { r with laid := laid stop, claims := r.claims ++ [⟨b.handle, start, stop, stop, true⟩] }) ∧
     (∀ c, from_ ≤ c → c < stop → conflict c → (∀ t, from_ ≤ t → t < c → ¬ conflict t) →
       p.placeClaim r b x start stop = { r with laid := laid c, claims := r.claims ++ [⟨b.handle, start, stop, c, false⟩] }))) ∧
  (∀ (p : Pass) (r : PassResult) (mux : Nat) (named : TunerId),
    (let g : Ground := ⟨r.laid, p.muxes, p.feedMode, p.latchA, p.latchB⟩
     let other := otherTuner named
     let conflict := fun x t => (g.kindsAt x false mux t).any = true
     let free := fun x => ∀ t, p.t0 ≤ t → ¬ conflict x t
     let first := fun x c => p.t0 ≤ c ∧ conflict x c ∧ ∀ t, p.t0 ≤ t → t < c → ¬ conflict x t
     let lay := fun (x : TunerId) (stop : Option Nat) => { r with
       laid := if beforeEnd p.t0 stop = true then r.laid ++ [⟨x, mux, p.t0, stop, .live, 0⟩] else r.laid
       live := some ⟨x, mux, p.t0, stop, stop⟩ }
     (free named → p.placeLiveClaim r mux named = lay named none) ∧
     (¬ free named → free other → p.placeLiveClaim r mux named = lay other none) ∧
     (∀ c d, first named c → first other d → p.placeLiveClaim r mux named = if c < d then lay other (some d) else lay named (some c))))

/-! ## Starts and ends of recordings (R52, R116 to R136) -/

/-- EFFECTIVE_START_REACHED: a placed Pending booking opens, unless its times were changed since: it waits for the placement of the pass that
follows (log 38). It becomes Due with a Start order of attempt 1 to its tuner, of its service
and that service's multiplex and not marked as issued by Running, LateStart when the
mark kept with its placement says that it was placed late (log 18), TimedFallback when it is accurate and neither Running nor a recent report is known; an accurate booking with a main event
and a report of the last 600 s becomes Armed with that status as its candidate. Either way its BookingState notice is queued. -/
def Obligations.EffectiveStartOpens : Prop :=
  ∀ (b : Booking) (x : TunerId) (a e : Nat) (s : State), s.lines.resetn = true → s.tablesHold → s.booking? b.handle = some b →
    b.state = .pending → b.placement = .placed x a e → s.time.clockSet = true → s.orders.stepHold = none → a ≤ s.time.seconds →
    (b.replan = true → exec (.effectiveStartReached b.handle) s = .next s) ∧
    (b.replan = false → ∃ t c, exec (.effectiveStartReached b.handle) s = .next t ∧ t.surrounds s ∧ t.storage = s.storage ∧
      t.booking? b.handle = some c ∧ c.placement = b.placement ∧ c.main = b.main ∧ c.actualStart = b.actualStart ∧ t.tells c ∧
      (s.planner.running.isSome = true → t.planner.repass = true) ∧
      ((b.accurate = false ∨ b.items.runningAt ≠ none) →
        c.state = .due ∧ c.flags = { b.flags with lateStart := b.flags.lateStart || b.late } ∧
          t.ordered s b.handle .start (some x) 1 false) ∧
      (b.accurate = true → b.items.runningAt = none →
        (b.main = none ∨ (∀ r, b.items.report = some r → r.time + 600 < s.time.seconds)) →
        c.state = .due ∧ c.flags = { b.flags with lateStart := b.flags.lateStart || b.late, timedFallback := true } ∧
          c.items.report = none ∧ t.ordered s b.handle .start (some x) 1 false) ∧
      (∀ m r, b.accurate = true → b.items.runningAt = none → b.main = some m → b.items.report = some r →
        s.time.seconds ≤ r.time + 600 →
        c.state = .armed ∧ c.flags = b.flags ∧ c.items.candidate = some ⟨r.status, ⟨0, false⟩, false⟩ ∧ t.orders = s.orders ∧
          t.monitor = s.monitor))

/-- The padded ends at which a booking is missed: PADDED_END_UNPLACED (Clash), PADDED_END_DUE with the Start undelivered (HostAbsent),
UNDELIVERED_START_TIMEOUT for a Start issued at or after the padded end (HostAbsent). Each finish is told by a BookingState notice, which for
Clash carries the causes of the last placement. -/
def Obligations.MissedBookingsFinish : Prop :=
  (∀ (b : Booking) (c : Causes) (s : State), s.lines.resetn = true → s.tablesHold → s.booking? b.handle = some b →
    s.time.clockSet = true → b.state = .pending → b.placement = .unplaced c →
    min (b.nominalStop + b.postPad) maxU32 ≤ s.time.seconds →
    ∃ t, exec (.paddedEndUnplaced b.handle) s = .next t ∧ t.surrounds s ∧ t.finishedAs s b ⟨.missed, .clash⟩ false) ∧
  (∀ (b : Booking) (o : Order) (s : State), s.lines.resetn = true → s.tablesHold → s.booking? b.handle = some b →
    s.orderOf b.handle = some o → o.kind = .start → o.delivered = false → b.state = .due →
    (s.time.clockSet = true → o.issued < min (b.nominalStop + b.postPad) maxU32 →
      min (b.nominalStop + b.postPad) maxU32 ≤ s.time.seconds →
      ∃ t, exec (.paddedEndDue b.handle) s = .next t ∧ t.surrounds s ∧ t.finishedAs s b ⟨.missed, .hostAbsent⟩ false) ∧
    (min (b.nominalStop + b.postPad) maxU32 ≤ o.issued → s.link.settings.orderTimeout ≤ o.elapsed →
      ∃ t, exec (.undeliveredStartTimeout b.handle) s = .next t ∧ t.surrounds s ∧
        t.finishedAs s b ⟨.missed, .hostAbsent⟩ false))

/-- EFFECTIVE_END_REACHED (log 20) asks for a pass, and a Recording booking goes by R131: a timed one stops with cause Schedule, a Truncated claim
with Overrun and the Truncated flag, one at its AccurateSlack end with Slack; otherwise an overrun claim opens and it goes on.
ACCURATE_SLACK_END finishes an Armed booking Missed (NeverRan) and stops a Recording one that follows running status with cause Slack, at
the instant or after it (log 51). -/
def Obligations.EffectiveEndsAct : Prop :=
  (∀ (b : Booking) (x : TunerId) (a e : Nat) (s : State), s.lines.resetn = true → s.tablesHold → s.booking? b.handle = some b →
    s.time.clockSet = true → b.state ≠ .finished → b.placement = .placed x a e → e ≤ s.time.seconds → b.items.endTaken ≠ some e →
    ∃ t, exec (.effectiveEndReached b.handle) s = .next t ∧ t.surrounds s ∧ t.passComes ∧
      (b.state ≠ .recording →
        t.booking? b.handle = some { b with items := { b.items with endTaken := some e } } ∧ t.orders = s.orders) ∧
      (b.state = .recording → (∀ c f, b.items.overrun ≠ .opened c f) →
        (let timed := b.accurate = false ∨ b.flags.timedFallback = true ∨ b.items.runningAt = none
         (timed → t.stopsAs s b .schedule false) ∧
         (¬ timed → b.items.overrun = .truncated → t.stopsAs s b .overrun true) ∧
         (¬ timed → b.items.overrun ≠ .truncated → b.nominalStop + s.link.settings.accurateSlack ≤ s.time.seconds →
           t.stopsAs s b .slack false) ∧
         (¬ timed → b.items.overrun ≠ .truncated → s.time.seconds < b.nominalStop + s.link.settings.accurateSlack →
           t.booking? b.handle = some { b with items := { b.items with
             endTaken := some e
             overrun := .opened e (min (b.nominalStop + s.link.settings.accurateSlack) maxU32) } } ∧ t.orders = s.orders)))) ∧
  (∀ (b : Booking) (s : State), s.lines.resetn = true → s.tablesHold → s.booking? b.handle = some b → s.time.clockSet = true →
    b.nominalStop + s.link.settings.accurateSlack ≤ s.time.seconds →
    (b.state = .armed → ∃ t, exec (.accurateSlackEnd b.handle) s = .next t ∧ t.surrounds s ∧
      t.finishedAs s b ⟨.missed, .neverRan⟩ false) ∧
    (b.state = .recording → b.accurate = true → b.flags.timedFallback = false → b.items.runningAt ≠ none →
      ∃ t, exec (.accurateSlackEnd b.handle) s = .next t ∧ t.surrounds s ∧ t.stopsAs s b .slack false))

/-- The expired timeouts of delivered orders: START_TIMEOUT issues the Start again as attempt 2, with the tuner, service and multiplex
as they stand and not marked as issued by Running, and after attempt 2 the booking finishes
Failed (NoStart); STOP_TIMEOUT finishes the booking by R48 with StopUnconfirmed; MOVE_TIMEOUT removes the Move and its target and sets the
late-move mark. -/
def Obligations.OrdersTimeOut : Prop :=
  ∀ (b : Booking) (o : Order) (s : State), s.lines.resetn = true → s.tablesHold → s.booking? b.handle = some b →
    s.orderOf b.handle = some o → o.delivered = true → o.limit ≤ o.elapsed →
    (b.state = .due → o.kind = .start → o.attempt = 1 →
      ∃ t, exec (.startTimeout b.handle) s = .next t ∧ t.surrounds s ∧ t.book = s.book ∧
        t.ordered s b.handle .start b.placement.tuner? 2 false ∧ (∀ k, k ≠ b.handle → t.orderOf k = s.orderOf k)) ∧
    (b.state = .due → o.kind = .start → o.attempt = 2 →
      ∃ t, exec (.startTimeout b.handle) s = .next t ∧ t.surrounds s ∧ t.finishedAs s b ⟨.failed, .noStart⟩ false) ∧
    (b.state = .stopping → o.kind = .stop →
      ∃ t, exec (.stopTimeout b.handle) s = .next t ∧ t.surrounds s ∧ t.finishedAs s b (b.outcome .unconfirmed) true) ∧
    (b.state = .recording → o.kind = .move →
      ∃ t, exec (.moveTimeout b.handle) s = .next t ∧ t.surrounds s ∧ t.orderOf b.handle = none ∧
        (∀ k, k ≠ b.handle → t.orderOf k = s.orderOf k) ∧
        t.booking? b.handle = some { b with items := { b.items with moveTarget := none, lateMove := true } } ∧
        (∀ k, k ≠ b.handle → t.booking? k = s.booking? k))

/-- RUN_STATUS gives every unfinished accurate booking without TimedFallback on the event the report, and in Armed, Due and Recording its
candidate; the other records stand. HOLD_COMPLETES: Running takes an Armed placed booking to Due with its Start order, of attempt 1
and marked as issued by Running, and its notice, LateStart when it was
placed late (R116, R100; log 18); NotRunning stops a Recording booking that had seen Running; any other status, Running for an Armed booking
at or past its effective end or not placed (log 43), and NotRunning in Recording without Running only mark the effect taken, with no notice. -/
def Obligations.RunningStatusActs : Prop :=
  (∀ (tag : Byte) (body : List Byte) (ref : EventRef) (status : RunStatus) (s : State), parseRunStatus body = .ok (ref, status) →
    s.takes ⟨tag, 0x48, body⟩ →
    ∃ t, exec (.runStatus tag body) s = .next t ∧ t.planner = s.planner ∧
      (findService s.catalogue.services ref.service = none → t.unchanged s ∧ t.replies ⟨tag, 0x48, body⟩ .badField .code) ∧
      ((findService s.catalogue.services ref.service).isSome = true → t.replies ⟨tag, 0x48, body⟩ .ok .code ∧
        t.becomes (s.setBook { s.book with records := s.book.records.map fun b =>
          if b.state ≠ .finished ∧ b.accurate = true ∧ b.flags.timedFallback = false ∧ b.main = some ref then
            { b with items := { b.items with
              report := some ⟨status, s.time.seconds⟩
              candidate := if b.state = .armed ∨ b.state = .due ∨ b.state = .recording then
                  (match b.items.candidate with
                    | some c => some (if c.status = status then c else ⟨status, ⟨0, false⟩, false⟩)
                    | none => some ⟨status, ⟨0, false⟩, false⟩)
                else b.items.candidate } }
          else b }))) ∧
  (∀ (b : Booking) (status : RunStatus) (n : Count) (s : State), s.lines.resetn = true → s.tablesHold →
    s.booking? b.handle = some b → b.items.candidate = some ⟨status, n, false⟩ → n.complete = true →
    (b.state = .armed ∨ b.state = .due ∨ b.state = .recording) →
    ∃ t, exec (.holdCompletes b.handle) s = .next t ∧ t.surrounds s ∧
      (b.state = .armed → status = .running → ∀ x a e, b.placement = .placed x a e → s.time.seconds < e →
        t.ordered s b.handle .start (some x) 1 true ∧
        ∃ c, t.booking? b.handle = some c ∧ c.state = .due ∧ c.placement = b.placement ∧ t.tells c ∧
          c.items.runningAt = some s.time.seconds ∧ c.items.candidate = some ⟨.running, n, true⟩ ∧
          c.flags = { b.flags with lateStart := b.flags.lateStart || b.late }) ∧
      (b.state = .recording → status = .notRunning → b.items.runningAt ≠ none →
        t.stopsAs s b .schedule false ∧ ∃ c, t.booking? b.handle = some c ∧ c.items.notRunningAt = some s.time.seconds) ∧
      ((b.state = .due ∨ status = .startsSoon ∨ status = .paused ∨ (b.state = .armed ∧ status = .notRunning) ∨
          (b.state = .recording ∧ status = .running) ∨ (b.state = .recording ∧ status = .notRunning ∧ b.items.runningAt = none) ∨
          (b.state = .armed ∧ status = .running ∧ ∀ x a e, b.placement = .placed x a e → e ≤ s.time.seconds)) →
        t.booking? b.handle = some { b with items := { b.items with candidate := some ⟨status, n, true⟩ } } ∧
          t.orders = s.orders ∧ t.notices = s.notices))

/-- FAILOVER_TEST (logs 31, 36) of the lowest Recording booking whose count stands at 0 (one not Recording, in a gap begun by Restart, takes no
turn: log 63, the model's choice): the count starts again from GapLimit; a booking that holds a Move is not
tested; with the other tuner Lost or Faulted, or in conflict before the nominal end, nothing is issued; with it free from now to the
effective end a Move order to it is issued, with that end as target; free to the nominal end alone, the target is trimmed to the first
conflict after it. The test reads the plan as last written less the booking's own occupancy, every booking holding a Move taken on the
tuner of its Move, over its span in the plan (log 36), with latches, feed mode and quadrants as they stand. -/
def Obligations.FailoverIsTested : Prop :=
  ∀ (b : Booking) (x : TunerId) (a e : Nat) (s : State), s.lines.resetn = true → s.tablesHold → s.booking? b.handle = some b →
    b.state = .recording → b.items.inGap = true → b.items.failover = 0 → b.placement = .placed x a e →
    (∀ c ∈ s.book.records, c.handle < b.handle → ¬ (c.state = .recording ∧ c.items.inGap = true ∧ c.items.failover = 0)) →
    ∃ t c, exec (.failoverTest b.handle) s = .next t ∧ t.surrounds s ∧ t.monitor = s.monitor ∧
      t.booking? b.handle = some c ∧
      c.state = .recording ∧ c.placement = b.placement ∧ c.items.failover = s.link.settings.gapLimit ∧ c.items.inGap = true ∧
      (∀ k, k ≠ b.handle → t.booking? k = s.booking? k) ∧
      (∀ o, s.orderOf b.handle = some o → o.kind = .move → t.orders = s.orders ∧ c.items.moveTarget = b.items.moveTarget) ∧
      ((∀ o, s.orderOf b.handle = some o → o.kind ≠ .move) →
        ((s.tuner (otherTuner x)).condition.gapping = true → t.orders = s.orders ∧ c.items.moveTarget = b.items.moveTarget) ∧
        ((s.tuner (otherTuner x)).condition.gapping = false →
          (s.failoverGround b.handle).free (otherTuner x) (muxOf s.catalogue.services b.service) s.time.seconds e = true →
          s.time.seconds < e →
          t.ordered s b.handle .move (some (otherTuner x)) 1 false ∧ c.items.moveTarget = some ⟨otherTuner x, e⟩ ∧
            c.items.lateMove = false) ∧
        ((s.tuner (otherTuner x)).condition.gapping = false →
          (let conflict := fun at_ => ((s.failoverGround b.handle).kindsAt (otherTuner x) true
             (muxOf s.catalogue.services b.service) at_).any = true
           let nominal := max s.time.seconds b.nominalStop
           (∀ k, s.time.seconds ≤ k → k < nominal → k < e → conflict k → t.orders = s.orders ∧ c.items.moveTarget = b.items.moveTarget) ∧
           (∀ k, nominal ≤ k → k < e → conflict k → (∀ j, s.time.seconds ≤ j → j < k → ¬ conflict j) → s.time.seconds < k →
             t.ordered s b.handle .move (some (otherTuner x)) 1 false ∧ c.items.moveTarget = some ⟨otherTuner x, k⟩ ∧
               c.items.lateMove = false)))) ∧
      s.failoverReads b.handle (s.failoverGround b.handle)

/-! ## Recording reports (R122 to R127, R48) -/

/-- BEGUN of a Due booking: it enters Recording and is told by a BookingState notice, its Start order is gone, actual start is now unless it was set, REC is asserted, and on a
tuner Lost or Faulted a gap begins; with NotRunning held, or at its effective end, it stops at once by R130 and R131, or its overrun claim
opens. In Stopping without an actual start that start is set to now, and a gap from Restart ends. Each of these replies is sent at once (log
14). A booking that finished Failed (NoStart) or Cancelled is TooLate, any other StateMismatch; of every report handle 0 is BadField and a handle without record NotFound. -/
def Obligations.BegunStartsRecording : Prop :=
  (∀ (tag : Byte) (body : List Byte) (b : Booking) (s : State), parseReport body = .ok b.handle → b.handle ≠ 0 →
    [1, 2, 3, 4].contains (reportCode body) = false → s.takes ⟨tag, 0x49, body⟩ → s.tablesHold → s.booking? b.handle = some b →
    ∃ t, exec (.begun tag body) s = .next t ∧ t.surrounds s ∧
      (∀ x a e, b.state = .due → b.placement = .placed x a e →
        (let start := b.actualStart.getD s.time.seconds
         let gapping := (s.tuner x).condition.gapping
         let begun : Booking := { b with
           state := .recording, actualStart := some start, flags := { b.flags with gaps := b.flags.gaps || gapping } }
         let held := b.items.runningAt ≠ none ∧ ∃ n, b.items.candidate = some ⟨.notRunning, n, true⟩
         let ends := s.time.clockSet = true ∧ e ≤ s.time.seconds
         let timed := b.accurate = false ∨ b.flags.timedFallback = true ∨ b.items.runningAt = none
         let slackEnd := b.nominalStop + s.link.settings.accurateSlack
         (∀ k, k ≠ b.handle → t.booking? k = s.booking? k) ∧
         (∃ c, t.booking? b.handle = some c ∧ t.replies ⟨tag, 0x49, body⟩ .ok (.report c.state b.verdict) ∧
           c.actualStart = some start ∧ c.placement = b.placement ∧ c.flags.gaps = (b.flags.gaps || gapping) ∧
           c.gapCount = if gapping = true then min (b.gapCount + 1) 65535 else b.gapCount) ∧
         (¬ held → (¬ ends ∨ ∃ c f, b.items.overrun = .opened c f) →
           t.planner = s.planner ∧ t.orderOf b.handle = none ∧ t.lines.rec_ = true ∧
             ∃ c, t.booking? b.handle = some c ∧ c.state = .recording ∧ t.tells c ∧ c.items.inGap = gapping ∧
               (c.items.firstAttempt = true ↔ b.items.firstAttempt = true ∨
                 ∃ o, s.orderOf b.handle = some o ∧ o.kind = .start ∧ o.attempt = 1 ∧ o.onRunning = true)) ∧
         (held → t.stopsAs s begun .schedule false ∧
           ∃ c, t.booking? b.handle = some c ∧ c.items.notRunningAt = some s.time.seconds) ∧
         (¬ held → ends → (∀ c f, b.items.overrun ≠ .opened c f) →
           (timed → t.stopsAs s begun .schedule false) ∧
           (¬ timed → b.items.overrun = .truncated → t.stopsAs s begun .overrun true) ∧
           (¬ timed → b.items.overrun ≠ .truncated → slackEnd ≤ s.time.seconds → t.stopsAs s begun .slack false) ∧
           (¬ timed → b.items.overrun ≠ .truncated → s.time.seconds < slackEnd →
             t.passComes ∧ t.orderOf b.handle = none ∧ t.lines.rec_ = true ∧
               ∃ c, t.booking? b.handle = some c ∧ c.state = .recording ∧ t.tells c ∧
                 c.items.overrun = .opened e (min slackEnd maxU32))))) ∧
      (b.state = .stopping → b.actualStart = none →
        t.replies ⟨tag, 0x49, body⟩ .ok (.report .stopping b.verdict) ∧ t.orders = s.orders ∧ t.planner = s.planner ∧ t.notices = s.notices ∧
          t.booking? b.handle = some { b with
            actualStart := some s.time.seconds, items := { b.items with inGap := false, failover := 0 } }) ∧
      (∀ v, b.state = .finished → b.verdict = some v → (v.kind = .cancelled ∨ v = ⟨.failed, .noStart⟩) →
        t.unchanged s ∧ t.replies ⟨tag, 0x49, body⟩ .tooLate (.report .finished (some v))) ∧
      (b.state = .finished → (∀ v, b.verdict = some v → v.kind ≠ .cancelled ∧ v ≠ ⟨.failed, .noStart⟩) →
        t.unchanged s ∧ t.replies ⟨tag, 0x49, body⟩ .stateMismatch (.report .finished b.verdict)) ∧
      ((b.state = .pending ∨ b.state = .armed ∨ b.state = .recording ∨ (b.state = .stopping ∧ b.actualStart ≠ none)) →
        t.unchanged s ∧ t.replies ⟨tag, 0x49, body⟩ .stateMismatch (.report b.state b.verdict))) ∧
  (∀ (i : Instr) (tag : Byte) (body : List Byte) (h : Nat) (s : State), i = reportInstr tag body → body.length ≤ 240 →
    parseReport body = .ok h → s.takes ⟨tag, 0x49, body⟩ →
    (h = 0 → ∃ t, exec i s = .next t ∧ t.unchanged s ∧ t.replies ⟨tag, 0x49, body⟩ .badField .code) ∧
    (h ≠ 0 → s.booking? h = none → ∃ t, exec i s = .next t ∧ t.unchanged s ∧ t.replies ⟨tag, 0x49, body⟩ .notFound .code))

/-- The outcome of a booking that was stopped (R48): Cancelled (Request) when the stop cause is Cancel; Failed (NoStart) without an actual
start; a timed booking is Completed when actual start is at or before nominal start and the end instant at or after nominal end, and Partial
otherwise; one that followed running status is Completed when its first Begun answered the first attempt of the Start issued at Running and
the end instant is at or after the NotRunning instant. A finish leaves the record of R47, withdraws the order and tells the Series Matcher,
which then retries every Starved link (R76); that these retries come ahead of the in-use rule (R142), and so the notices of the Series
Matcher ahead of the Tuner Monitor's, is the model's choice (log 27), which R186 leaves open. The key of a booking that is Completed, or Partial with
nine tenths recorded, enters the history of its series link as the newest, the oldest of 25 leaving; a key already there keeps its place, and
any other history stands (R77). -/
def Obligations.OutcomesAreJudged : Prop :=
  (∀ (b : Booking) (r : Reason),
    (b.stopCause = some .cancel → b.outcome r = ⟨.cancelled, .request⟩) ∧
    (b.stopCause ≠ some .cancel → b.actualStart = none → b.outcome r = ⟨.failed, .noStart⟩) ∧
    (∀ a e, b.stopCause ≠ some .cancel → b.actualStart = some a → (b.actualStop = some e ∨ (b.actualStop = none ∧ b.items.stopAt = some e)) →
      ((b.accurate = false ∨ b.flags.timedFallback = true ∨ b.items.runningAt = none) →
        b.outcome r = ⟨if a ≤ b.nominalStart ∧ b.nominalStop ≤ e then .completed else .partially, r⟩) ∧
      (b.accurate = true → b.flags.timedFallback = false → b.items.runningAt ≠ none →
        (∀ n, b.items.notRunningAt = some n →
          b.outcome r = ⟨if b.items.firstAttempt = true ∧ n ≤ e then .completed else .partially, r⟩) ∧
        (b.items.notRunningAt = none → b.outcome r = ⟨.partially, r⟩)))) ∧
  (∀ (b : Booking) (v : Verdict) (unconfirmed : Bool) (s : State), s.booking? b.handle = some b →
    ∃ u : State, s.finish b.handle v unconfirmed = u.retryStarved.evaluateTuners ∧
      u.booking? b.handle = some (b.finished v unconfirmed s.time.seconds) ∧ u.orderOf b.handle = none ∧ u.planner.triggered = true ∧
      u.tellsFinish b v ∧ (∀ k, k ≠ b.handle → u.booking? k = s.booking? k ∧ u.orderOf k = s.orderOf k) ∧
      u.monitor = s.monitor ∧ u.guide = s.guide ∧ u.time = s.time ∧ u.book.next = s.book.next) ∧
  (∀ (b : Booking) (v : Verdict) (unconfirmed : Bool) (l : Link) (tag : Nat) (service : Option Nat) (policy : Policy)
    (history : List Nat) (s : State), s.booking? b.handle = some b → s.link? l.index = some l →
    l.part = .series tag service policy history →
    (let recorded := match b.actualStart, b.actualStop with
       | some a, some e => e - a - b.gapSeconds
       | _, _ => 0
     let earns := v.kind = .completed ∨ (v.kind = .partially ∧ (b.nominalStop - b.nominalStart) * 9 ≤ recorded * 10)
     ∃ starved after, (s.finish b.handle v unconfirmed).link? l.index =
         some { l with starved := starved, part := .series tag service policy after } ∧
       (∀ key, b.origin = .series l.index → b.key = some key → earns →
         (key ∈ history → after = history) ∧
         (key ∉ history → history.length < 24 → after = history ++ [key]) ∧
         (key ∉ history → history.length = 24 → after = history.tail ++ [key])) ∧
       ((b.origin ≠ .series l.index ∨ b.key = none ∨ ¬ earns) → after = history)))

/-- ENDED, REFUSED and FAULT_REPORT finish a booking, remove its order and queue its BookingState notice, each by the booking's state, the
reply waiting for the pass; a
report that comes too late or does not fit the state changes nothing: ENDED and FAULT_REPORT are TooLate for a Finished booking with an
actual start, REFUSED for one that finished Failed (NoStart) or Cancelled, and StateMismatch otherwise. -/
def Obligations.ReportsFinish : Prop :=
  ∀ (tag : Byte) (body : List Byte) (b : Booking) (s : State), parseReport body = .ok b.handle → b.handle ≠ 0 →
    s.takes ⟨tag, 0x49, body⟩ → s.tablesHold → s.booking? b.handle = some b →
    (let ended : Booking := { b with actualStop := some s.time.seconds }
     (reportCode body = 1 → ∃ t, exec (.ended tag body) s = .next t ∧ t.surrounds s ∧
       (b.state = .stopping → t.finishedAs s ended (ended.outcome .scheduled) false ∧
         t.awaits (.done .ok (.report .finished (some (ended.outcome .scheduled))))) ∧
       (b.state = .recording → t.finishedAs s ended (ended.outcome .hostStop) false ∧
         t.awaits (.done .ok (.report .finished (some (ended.outcome .hostStop))))) ∧
       (b.state = .finished → b.actualStart ≠ none →
         t.unchanged s ∧ t.replies ⟨tag, 0x49, body⟩ .tooLate (.report .finished b.verdict)) ∧
       ((b.state = .pending ∨ b.state = .armed ∨ b.state = .due ∨ (b.state = .finished ∧ b.actualStart = none)) →
         t.unchanged s ∧ t.replies ⟨tag, 0x49, body⟩ .stateMismatch (.report b.state b.verdict))) ∧
     (reportCode body = 2 → ∃ t, exec (.refusedReport tag body) s = .next t ∧ t.surrounds s ∧
       (∀ o, b.state = .due → s.orderOf b.handle = some o → o.kind = .start → o.delivered = true →
         t.finishedAs s b ⟨.failed, .refused⟩ false ∧ t.awaits (.done .ok (.report .finished (some ⟨.failed, .refused⟩)))) ∧
       (b.state = .due → (∀ o, s.orderOf b.handle = some o → o.kind ≠ .start ∨ o.delivered = false) →
         t.unchanged s ∧ t.replies ⟨tag, 0x49, body⟩ .stateMismatch (.report .due b.verdict)) ∧
       (∀ v, b.state = .finished → b.verdict = some v → (v.kind = .cancelled ∨ v = ⟨.failed, .noStart⟩) →
         t.unchanged s ∧ t.replies ⟨tag, 0x49, body⟩ .tooLate (.report .finished (some v))) ∧
       (b.state = .finished → (∀ v, b.verdict = some v → v.kind ≠ .cancelled ∧ v ≠ ⟨.failed, .noStart⟩) →
         t.unchanged s ∧ t.replies ⟨tag, 0x49, body⟩ .stateMismatch (.report .finished b.verdict)) ∧
       ((b.state = .pending ∨ b.state = .armed ∨ b.state = .recording ∨ b.state = .stopping) →
         t.unchanged s ∧ t.replies ⟨tag, 0x49, body⟩ .stateMismatch (.report b.state b.verdict))) ∧
     (reportCode body = 3 → ∃ t, exec (.faultReport tag body) s = .next t ∧ t.surrounds s ∧
       (∀ a, b.state = .recording → b.actualStart = some a →
         (let v : Verdict := if a + b.gapSeconds < s.time.seconds then ⟨.partially, .fault⟩ else ⟨.failed, .fault⟩
          t.finishedAs s ended v false ∧ t.awaits (.done .ok (.report .finished (some v))))) ∧
       (b.state = .stopping → t.finishedAs s ended (ended.outcome .fault) false ∧
         t.awaits (.done .ok (.report .finished (some (ended.outcome .fault))))) ∧
       (b.state = .finished → b.actualStart ≠ none →
         t.unchanged s ∧ t.replies ⟨tag, 0x49, body⟩ .tooLate (.report .finished b.verdict)) ∧
       ((b.state = .pending ∨ b.state = .armed ∨ b.state = .due ∨ (b.state = .finished ∧ b.actualStart = none)) →
         t.unchanged s ∧ t.replies ⟨tag, 0x49, body⟩ .stateMismatch (.report b.state b.verdict))))

/-- MOVED (logs 17, 36) of a Recording booking with a delivered Move: with the target window still free the placement becomes the target tuner and end,
Moved is set, order and target go, it is in a gap exactly when that tuner is Lost or Faulted, and the reply waits for the pass; otherwise the Move goes, the late-move mark is set and the reply is
TooLate. Without a delivered Move the reply is TooLate under the late-move mark and StateMismatch without it. The window is tested as the failover test
tests it: against the plan as last written less the booking's own occupancy, every booking holding a Move taken on the tuner of its Move,
over its span in the plan (log 36). -/
def Obligations.MovedMovesTheRecording : Prop :=
  ∀ (tag : Byte) (body : List Byte) (b : Booking) (s : State), parseReport body = .ok b.handle → b.handle ≠ 0 →
    reportCode body = 4 → s.takes ⟨tag, 0x49, body⟩ → s.tablesHold → s.booking? b.handle = some b →
    ∃ t, exec (.moved tag body) s = .next t ∧ t.surrounds s ∧
      (∀ o g x a e, b.state = .recording → s.orderOf b.handle = some o → o.kind = .move → o.delivered = true →
        b.items.moveTarget = some g → b.placement = .placed x a e →
        (let free := (s.failoverGround b.handle).free g.tuner (muxOf s.catalogue.services b.service) s.time.seconds g.stop
         (free = true → t.orderOf b.handle = none ∧ t.awaits (.done .ok (.report .recording b.verdict)) ∧
           ∃ c, t.booking? b.handle = some c ∧ c.state = .recording ∧ c.placement = .placed g.tuner a g.stop ∧
             c.flags.moved = true ∧ c.items.moveTarget = none ∧ c.actualStart = b.actualStart ∧
             c.items.inGap = (t.tuner g.tuner).condition.gapping) ∧
         (free = false → t.orderOf b.handle = none ∧ t.planner = s.planner ∧
           t.replies ⟨tag, 0x49, body⟩ .tooLate (.report .recording b.verdict) ∧
           t.booking? b.handle = some { b with items := { b.items with moveTarget := none, lateMove := true } }))) ∧
      ((b.state ≠ .recording ∨ ∀ o, s.orderOf b.handle = some o → o.kind ≠ .move ∨ o.delivered = false) →
        t.unchanged s ∧ t.replies ⟨tag, 0x49, body⟩ (if b.items.lateMove = true then .tooLate else .stateMismatch)
          (.report b.state b.verdict)) ∧
      s.failoverReads b.handle (s.failoverGround b.handle)

/-! ## Tuners and the live claim (R140 to R157) -/

/-- LIVE_CLAIM of a multiplex there is makes the claim, or replaces another claim and keeps its placement, and the reply waits for the pass;
the same claim again changes nothing, and its reply carries the placement held (log 44). A free multiplex index is BadField. LIVE_RELEASE removes the claim with its placement, and a tuner that
carries no booking goes out of use; without a claim nothing is released. -/
def Obligations.LiveClaimIsHeld : Prop :=
  (∀ (tag : Byte) (body : List Byte) (mux : Nat) (named : TunerId) (s : State), parseLiveClaim body = .ok (mux, named) →
    s.takes ⟨tag, 0x40, body⟩ →
    ∃ t, exec (.liveClaim tag body) s = .next t ∧
      (findMux s.catalogue.muxes mux = none → t.unchanged s ∧ t.replies ⟨tag, 0x40, body⟩ .badField .code) ∧
      ((findMux s.catalogue.muxes mux).isSome = true →
        (s.monitor.live = none → t.becomes (s.setMonitor { s.monitor with live := some ⟨mux, named, none⟩ }) ∧ t.awaits .live) ∧
        (∀ c, s.monitor.live = some c → c.mux = mux → c.named = named →
          t.unchanged s ∧ t.replies ⟨tag, 0x40, body⟩ .ok (.livePlacement c.placement)) ∧
        (∀ c, s.monitor.live = some c → (c.mux ≠ mux ∨ c.named ≠ named) →
          t.becomes (s.setMonitor { s.monitor with live := some ⟨mux, named, c.placement⟩ }) ∧ t.awaits .live))) ∧
  (∀ (tag : Byte) (s : State), s.takes ⟨tag, 0x41, []⟩ →
    ∃ t, exec (.liveRelease tag []) s = .next t ∧ t.surrounds s ∧ t.monitor.live = none ∧ t.links = s.links ∧
      (s.monitor.live = none → t.unchanged s ∧ t.replies ⟨tag, 0x41, []⟩ .ok (.liveReleased true)) ∧
      (s.monitor.live ≠ none → t.awaits (.done .ok (.liveReleased false)) ∧
        ∀ x, (∀ b ∈ s.book.records, b.pinned = true → b.placement.tuner? ≠ some x) → (t.tuner x).condition = .unused))

/-- FAULT_LINE_RISE sets the tuner's latch, in LoopThrough from A both. A tuner whose latch is newly set has its change latch set, an
in-use one enters Faulted with no count, and its TunerChange notice has cause Fault, A's before B's; each booking Recording on a tuner so taken
to Faulted is in a gap, one gap where it was in one already, and a pass comes. A tuner whose latch stood keeps all its items. FAULT_LINE_FALL changes the level alone. CLEAR_FAULT is
refused while the line that latched is high, otherwise the latch clears, a Faulted tuner is Tuning with a new grace count, the change latch is
set, the TunerChange notice has cause Clear, the gaps of the bookings Recording on a tuner that was Faulted end, an undelivered Move among them
withdrawn with its target and a delivered one kept, and the reply waits for the pass; of a latch already clear the reply carries condition and latch
as they stand (log 44). QUERY_TUNER reads both tuners and clears both change latches. -/
def Obligations.FaultsLatch : Prop :=
  (∀ (x : TunerId) (s : State), s.lines.resetn = true → s.faultLine x = false →
    ∃ t, exec (.faultLineRise x) s = .next t ∧ t.faultLine x = true ∧
      (let latched := fun (u : Tuner) => if u.faultLatch = true then u
         else if u.condition = .unused then { u with faultLatch := true, changeLatch := true }
         else ⟨.faulted, true, true, u.tuned, none, none, none⟩
       let told := fun y q => if (s.tuner y).faultLatch = true then q else s.tellChange y (latched (s.tuner y)) .fault q
       let both := x = .a ∧ s.link.settings.feedMode = .loopThrough
       let hit := fun y => y = x ∨ both
       (∀ y, hit y → t.tuner y = latched (s.tuner y)) ∧ (∀ y, ¬ hit y → t.tuner y = s.tuner y) ∧ t.monitor.live = s.monitor.live ∧
       (both → t.notices = told .b (told .a s.notices)) ∧ (¬ both → t.notices = told x s.notices) ∧
       (∀ y, hit y → (s.tuner y).faultLatch = false → t.passComes) ∧
       (s.tablesHold → ∀ y b, hit y → (s.tuner y).faultLatch = false → ((s.tuner y).condition = .tuning ∨ (s.tuner y).condition = .locked) →
         s.booking? b.handle = some b → b.state = .recording → b.placement.tuner? = some y → b.items.inGap = false →
         ∃ c, t.booking? b.handle = some c ∧ c.state = .recording ∧ c.items.inGap = true ∧ c.gapCount = min (b.gapCount + 1) 65535 ∧
           c.flags.gaps = true ∧ c.items.failover = s.link.settings.gapLimit) ∧
       (s.tablesHold → ∀ y b, hit y → s.booking? b.handle = some b → b.state = .recording → b.placement.tuner? = some y →
         ((s.tuner y).condition = .lost ∨ b.items.inGap = true) →
         t.booking? b.handle = some b ∧ t.orderOf b.handle = s.orderOf b.handle)) ∧
      t.time = s.time ∧ t.catalogue = s.catalogue ∧ t.guide = s.guide ∧ t.links = s.links ∧ t.storage = s.storage) ∧
  (∀ (x : TunerId) (s : State), s.lines.resetn = true → s.planner.triggered = false → s.faultLine x = true →
    ∃ t, exec (.faultLineFall x) s = .next t ∧ t.faultLine x = false ∧ t.core = s.core ∧ t.planner = s.planner) ∧
  (∀ (tag : Byte) (body : List Byte) (x : TunerId) (s : State), parseClearFault body = .ok x → s.takes ⟨tag, 0x42, body⟩ →
    (let held := s.faultLine x = true ∨ (x = .b ∧ s.link.settings.feedMode = .loopThrough ∧ s.lines.faultA = true)
     ∃ t, exec (.clearFault tag body) s = .next t ∧ t.surrounds s ∧
      (held → t.unchanged s ∧ t.replies ⟨tag, 0x42, body⟩ .stateMismatch .code) ∧
      (¬ held → (s.tuner x).faultLatch = false →
        t.unchanged s ∧ t.replies ⟨tag, 0x42, body⟩ .ok (.faultCleared (s.tuner x).condition false)) ∧
      (¬ held → (s.tuner x).faultLatch = true →
        t.tuner x = (if (s.tuner x).condition = .faulted then ⟨.tuning, false, true, (s.tuner x).tuned, some 0, none, none⟩
            else { s.tuner x with faultLatch := false, changeLatch := true }) ∧
          t.tuner (otherTuner x) = s.tuner (otherTuner x) ∧ t.notices = s.tellChange x (t.tuner x) .clear s.notices ∧
          t.awaits (.done .ok (.faultCleared (t.tuner x).condition false)) ∧
          (s.tablesHold → (s.tuner x).condition = .faulted → t.gapsEndOn s x) ∧
          ((s.tuner x).condition ≠ .faulted → t.book = s.book ∧ t.orders = s.orders)))) ∧
  (∀ (tag : Byte) (s : State), s.takes ⟨tag, 0x43, []⟩ →
    ∃ t, exec (.queryTuner tag []) s = .next t ∧ t.planner = s.planner ∧
      t.becomes (s.setMonitor { s.monitor with
        a := { s.monitor.a with changeLatch := false }, b := { s.monitor.b with changeLatch := false } }) ∧
      t.replies ⟨tag, 0x43, []⟩ .ok (.tuners ⟨s.monitor.a, s.inUse .a, s.lines.lockA, s.lines.faultA⟩
        ⟨s.monitor.b, s.inUse .b, s.lines.lockB, s.lines.faultB⟩ s.monitor.live))

/-- The counts and the lock line: GRACE_COUNT_COMPLETE locks with the line high and begins the loss count with it low;
LOSS_COUNT_COMPLETE, the line still low, makes the tuner Lost and begins a gap for each booking recording on it; REGAIN_COUNT_COMPLETE locks
again, and the gaps of the bookings recording on the tuner end, an undelivered Move among them withdrawn with its target and a delivered one
kept; so do they where a tuner Lost or Faulted goes out of use, or a Lost one retunes. LOCK_RISE and LOCK_FALL begin and drop the counts by the condition, and a rise in Tuning past the grace count locks. Each change of
condition sets the change latch and offers the TunerChange notice with cause Grace, Loss or Regain; where no condition changes no notice is
offered. The in-use rule: a tuner comes into use, cause Use, with the multiplex of its item of the latest effective start, among equal starts
the live claim, then the highest handle, Tuning with a new grace count or, its latch set, Faulted; it goes out of use to Unused, cause Release,
with no count and no multiplex, the latch kept; otherwise nothing changes. Both tuners are evaluated A first (log 53, the model's choice). -/
def Obligations.TunersAreWatched : Prop :=
  (∀ (x : TunerId) (s : State),
    (let u := s.tuner x
     let t := s.evaluateUse x
     let item := fun (start rank mux : Nat) =>
       (∃ b e, b ∈ s.book.records ∧ (b.state = .due ∨ b.state = .recording ∨ b.state = .stopping) ∧ b.placement = .placed x start e ∧
         rank = b.handle ∧ mux = muxOf s.catalogue.services b.service) ∨
       (∃ c p, s.monitor.live = some c ∧ c.placement = some p ∧ p.tuner = x ∧ p.start = start ∧ (∀ e, p.stop = some e → start < e) ∧
         rank = 65536 ∧ mux = p.mux)
     let used := s.wake.host = .up ∧ ∃ start rank mux, item start rank mux
     (u.condition = .unused → used → ∃ start rank mux, item start rank mux ∧
       (∀ a r m, item a r m → a < start ∨ (a = start ∧ r ≤ rank)) ∧
       t.tuner x = (if u.faultLatch = true then ⟨.faulted, true, true, some mux, none, none, none⟩
         else ⟨.tuning, false, true, some mux, some 0, none, none⟩) ∧ t.notices = s.tellChange x (t.tuner x) .use s.notices) ∧
     (u.condition ≠ .unused → ¬ used →
       t.tuner x = ⟨.unused, u.faultLatch, true, none, none, none, none⟩ ∧ t.notices = s.tellChange x (t.tuner x) .release s.notices) ∧
     ((u.condition = .unused ↔ ¬ used) → t = s) ∧
     t.tuner (otherTuner x) = s.tuner (otherTuner x) ∧ t.monitor.live = s.monitor.live ∧
     (s.tablesHold → (u.condition = .lost ∨ u.condition = .faulted) → ¬ used → t.gapsEndOn s x) ∧
     (∀ mux, s.tablesHold → u.condition = .lost → used → u.tuned ≠ some mux → (s.arrive x mux).gapsEndOn s x) ∧
     s.evaluateTuners = (s.evaluateUse .a).evaluateUse .b)) ∧
  ∀ (x : TunerId) (s : State), s.lines.resetn = true → s.tablesHold →
    (let u := s.tuner x
     (∀ n, u.condition = .tuning → u.grace = some n → 10 ≤ n →
       ∃ t, exec (.graceCountComplete x) s = .next t ∧ t.surrounds s ∧ t.tuner (otherTuner x) = s.tuner (otherTuner x) ∧
         (s.lockLine x = true → t.tuner x = ⟨.locked, u.faultLatch, true, u.tuned, none, none, none⟩ ∧
           t.notices = s.tellChange x (t.tuner x) .grace s.notices) ∧
         (s.lockLine x = false → t.tuner x = { u with grace := none, loss := some ⟨0, false⟩ } ∧ t.notices = s.notices)) ∧
     (∀ n, (u.condition = .locked ∨ (u.condition = .tuning ∧ u.grace = none)) → s.lockLine x = false → u.loss = some n →
       n.complete = true →
       ∃ t, exec (.lossCountComplete x) s = .next t ∧ t.surrounds s ∧ t.tuner (otherTuner x) = s.tuner (otherTuner x) ∧
         t.tuner x = ⟨.lost, u.faultLatch, true, u.tuned, none, none, none⟩ ∧ t.notices = s.tellChange x (t.tuner x) .loss s.notices ∧
         (∀ b, s.booking? b.handle = some b → b.state = .recording → b.placement.tuner? = some x → b.items.inGap = false →
           ∃ c, t.booking? b.handle = some c ∧ c.items.inGap = true ∧ c.gapCount = min (b.gapCount + 1) 65535 ∧
             c.flags.gaps = true ∧ c.items.failover = s.link.settings.gapLimit ∧ c.state = .recording) ∧
         (∀ b, s.booking? b.handle = some b → (b.state ≠ .recording ∨ b.placement.tuner? ≠ some x) →
           t.booking? b.handle = some b)) ∧
     (∀ n, u.condition = .lost → s.lockLine x = true → u.regain = some n → 1 ≤ n →
       ∃ t, exec (.regainCountComplete x) s = .next t ∧ t.surrounds s ∧ t.tuner (otherTuner x) = s.tuner (otherTuner x) ∧
         t.tuner x = ⟨.locked, u.faultLatch, true, u.tuned, none, none, none⟩ ∧ t.notices = s.tellChange x (t.tuner x) .regain s.notices ∧
         (∀ b, s.booking? b.handle = some b → b.state = .recording → b.placement.tuner? = some x →
           ∃ c, t.booking? b.handle = some c ∧ c.items.inGap = false ∧ c.gapCount = b.gapCount ∧ c.state = .recording) ∧
         t.gapsEndOn s x) ∧
     (s.lockLine x = false →
       ∃ t, exec (.lockRise x) s = .next t ∧ t.lockLine x = true ∧ t.tuner (otherTuner x) = s.tuner (otherTuner x) ∧
         t.time = s.time ∧ t.catalogue = s.catalogue ∧ t.guide = s.guide ∧ t.links = s.links ∧ t.wake = s.wake ∧
         (u.condition = .tuning → u.grace = none → t.tuner x = ⟨.locked, u.faultLatch, true, u.tuned, none, none, none⟩ ∧
           t.notices = s.tellChange x (t.tuner x) .grace s.notices) ∧
         (¬ (u.condition = .tuning ∧ u.grace = none) → t.notices = s.notices) ∧
         (u.condition = .tuning → u.grace ≠ none → t.tuner x = u) ∧
         (u.condition = .locked → t.tuner x = { u with loss := none }) ∧
         (u.condition = .lost → t.tuner x = { u with regain := some 0 }) ∧
         ((u.condition = .unused ∨ u.condition = .faulted) → t.tuner x = u)) ∧
     (s.lockLine x = true →
       ∃ t, exec (.lockFall x) s = .next t ∧ t.lockLine x = false ∧ t.tuner (otherTuner x) = s.tuner (otherTuner x) ∧
         t.book = s.book ∧ t.orders = s.orders ∧ t.notices = s.notices ∧
         (u.condition = .locked → t.tuner x = { u with loss := some ⟨0, false⟩ }) ∧
         (u.condition = .lost → t.tuner x = { u with regain := none }) ∧
         (u.condition ≠ .locked → u.condition ≠ .lost → t.tuner x = u)))

/-! ## Host power (R160 to R168) -/

/-- HOST_STATE_READY: in Up nothing changes; otherwise the host is Up, no count, due instant or abandon list stands and WAKE is deasserted;
the reply carries the state before and the WakeFailed count. HOST_STATE_STANDBY without force is refused with Busy while a booking blocks, with the
number of blockers, the lowest handle of those in Due, Recording or Stopping and the earliest effective start of those in Pending or Armed;
otherwise the host is Down when no order waits for it, no live claim stands, and under force every Due or Recording booking is Stopping with
cause Standby and the Truncated flag. The reply, with the state before and after and the bookings so stopped, is sent at once, but where a
live claim was released from Up it waits for the pass (log 14). With the clock set, a Pending booking blocks by its effective start and an Armed
one always (log 54). -/
def Obligations.HostSleepsAndWakes : Prop :=
  (∀ (tag m : Byte) (s : State), s.takes ⟨tag, 0x50, [0, m]⟩ →
    ∃ t, exec (.hostStateReady tag [0, m]) s = .next t ∧ t.surrounds s ∧ t.planner = s.planner ∧
      t.replies ⟨tag, 0x50, [0, m]⟩ .ok (.ready s.wake.host s.wake.failed) ∧
      (s.wake.host = .up → t.unchanged s) ∧
      (s.wake.host ≠ .up → t.wake = ⟨.up, none, none, none, none, [], s.wake.failed⟩ ∧ t.lines.wake = false ∧
        t.links = s.links ∧ t.storage = s.storage ∧
        ∀ x, (∃ b ∈ s.book.records, b.pinned = true ∧ b.placement.tuner? = some x) → (s.tuner x).condition = .unused →
          (t.tuner x).condition = (if (s.tuner x).faultLatch = true then .faulted else .tuning))) ∧
  (∀ (tag m : Byte) (force : Bool) (s : State), parseHostState [1, m] = .ok (some force) → s.takes ⟨tag, 0x50, [1, m]⟩ → s.tablesHold →
    (let blocks := fun (b : Booking) => b.state = .due ∨ b.state = .recording ∨ b.state = .stopping ∨
       (s.time.clockSet = true ∧ (b.state = .armed ∨ (b.state = .pending ∧
         ∃ x a e, b.placement = .placed x a e ∧ a ≤ s.time.seconds + s.link.settings.wakeLead)))
     ∃ t, exec (.hostStateStandby tag [1, m]) s = .next t ∧ t.surrounds s ∧
      (force = false → (∃ b ∈ s.book.records, blocks b) →
        t.unchanged s ∧ ∃ n h first, t.replies ⟨tag, 0x50, [1, m]⟩ .busy (.busy n h first) ∧
          (∃ blockers : List Booking, n = blockers.length ∧ blockers.Sublist s.book.records ∧
            ∀ b ∈ s.book.records, b ∈ blockers ↔ blocks b) ∧
          (let pinned := fun (b : Booking) => b ∈ s.book.records ∧ (b.state = .due ∨ b.state = .recording ∨ b.state = .stopping)
           ((∀ b, ¬ pinned b) → h = 0) ∧
           ((∃ b, pinned b) → (∃ b, pinned b ∧ b.handle = h) ∧ ∀ b, pinned b → h ≤ b.handle)) ∧
          (let starts := fun (a : Nat) => ∃ b ∈ s.book.records, blocks b ∧ (b.state = .pending ∨ b.state = .armed) ∧
             ∃ x e, b.placement = .placed x a e
           ((∀ a, ¬ starts a) → first = none) ∧
           ∀ a, starts a → ∃ c, first = some c ∧ starts c ∧ c ≤ a)) ∧
      ((force = true ∨ ∀ b ∈ s.book.records, ¬ blocks b) →
        t.monitor.live = (if s.wake.host = .up then none else s.monitor.live) ∧
        t.wake.failed = (if s.wake.host = .up then 0 else s.wake.failed) ∧
        (s.wake.host = .up → t.monitor.a.condition = .unused ∧ t.monitor.b.condition = .unused) ∧
        (∀ b, s.booking? b.handle = some b → (b.state = .due ∨ b.state = .recording) → t.stopsAs s b .standby true) ∧
        (let stopped := (s.book.records.filter fun b => b.state == .due || b.state == .recording).length
         (s.wake.host = .up → s.monitor.live ≠ none → t.awaits (.standby .up stopped)) ∧
         ((s.wake.host ≠ .up ∨ s.monitor.live = none) →
           t.replies ⟨tag, 0x50, [1, m]⟩ .ok (.standby s.wake.host t.wake.host stopped t.wake.due t.wake.wakeAt)))) ∧
      ((∀ b ∈ s.book.records, ¬ blocks b) → (∀ o ∈ s.orders.orders, o.delivered = true ∨ o.kind = .stop) →
        t.wake.host = .down ∧ t.wake.attempt = none ∧ t.lines.wake = false ∧ t.book = s.book)))

/-- WAKE_INSTANT_REACHED starts an attempt with WAKE asserted; ATTEMPT_COUNT_COMPLETE counts a failure, offers its WakeFailed notice and, after
the first attempt, begins the pause with WAKE deasserted, after the second leaves the host Abandoned, the abandon list filled by R168;
PAUSE_COUNT_COMPLETE begins the second attempt. An evaluation, in Down or Abandoned with WakeMode Auto, makes the due instant the earliest of
now, for an undelivered Start or Move order, and the effective starts of placed Pending bookings, the handles of the abandon list left out
while Abandoned, with the lowest handle that gives it; the wake instant lies WakeLead before it, and one at or before now starts an attempt.
Elsewhere it changes nothing. -/
def Obligations.WakeAttemptsGoOn : Prop :=
  (∀ s : State, s.lines.resetn = true → s.planner.triggered = false →
    (∀ w, (s.wake.host = .down ∨ s.wake.host = .abandoned) → s.link.settings.wakeOff = false → s.time.clockSet = true →
      s.wake.wakeAt = some w → w ≤ s.time.seconds →
      ∃ t, exec .wakeInstantReached s = .next t ∧ t.planner = s.planner ∧ t.lines.wake = true ∧
        t.becomes (s.setWake { s.wake with host := .waking1, attempt := some ⟨0, false⟩, abandon := [] })) ∧
    (∀ n, (s.wake.host = .waking1 ∨ s.wake.host = .waking2) → s.wake.attempt = some n → n.complete = true →
      ∃ t, exec .attemptCountComplete s = .next t ∧ t.surrounds s ∧ t.planner = s.planner ∧ t.book = s.book ∧ t.orders = s.orders ∧
        t.wake.failed = min (s.wake.failed + 1) 255 ∧
        (∀ d, s.wake.due = some d → t.notices = offerTo s.link.settings.noticeMask
          ⟨.wakeFailed (if s.wake.host = .waking1 then 1 else 2) d.at_ d.source, s.time.seconds⟩ s.notices) ∧
        (s.wake.host = .waking1 → t.wake.host = .pausing1 ∧ t.wake.pause = some 0 ∧ t.wake.attempt = none ∧ t.lines.wake = false ∧
          t.wake.due = s.wake.due ∧ t.wake.wakeAt = s.wake.wakeAt) ∧
        (s.wake.host = .waking2 → (∀ o ∈ s.orders.orders, o.delivered = true ∨ o.kind = .stop) →
          t.wake.host = .abandoned ∧ t.wake.attempt = none ∧ t.wake.wakeAt = none ∧ t.lines.wake = false) ∧
        (s.wake.host = .waking2 → s.book.ordered → s.orders.single → (∀ o ∈ s.orders.orders, (s.booking? o.handle).isSome = true) →
          t.wake.host = .abandoned ∧ t.wake.due = none ∧ t.wake.wakeAt = none ∧ t.wake.abandon.Pairwise (· < ·) ∧
            ∀ h, h ∈ t.wake.abandon ↔
              (∃ b ∈ s.book.records, b.handle = h ∧ b.state = .pending ∧ ∃ x a e, b.placement = .placed x a e) ∨
                ∃ o ∈ s.orders.orders, o.handle = h ∧ o.delivered = false ∧ o.kind ≠ .stop)) ∧
    (∀ n, s.wake.host = .pausing1 → s.wake.pause = some n → 2 ≤ n →
      ∃ t, exec .pauseCountComplete s = .next t ∧ t.planner = s.planner ∧ t.lines.wake = true ∧
        t.becomes (s.setWake { s.wake with host := .waking2, attempt := some ⟨0, false⟩, pause := none }))) ∧
  (∀ s : State,
    ((s.link.settings.wakeOff = true ∨ (s.wake.host ≠ .down ∧ s.wake.host ≠ .abandoned)) → s.evaluateWake = s) ∧
    (s.link.settings.wakeOff = false → (s.wake.host = .down ∨ s.wake.host = .abandoned) →
      (let waits := fun (at_ h : Nat) => (s.wake.host = .abandoned → h ∉ s.wake.abandon) ∧
         ((at_ = s.time.seconds ∧ ∃ o ∈ s.orders.orders, o.handle = h ∧ o.delivered = false ∧ o.kind ≠ .stop) ∨
           (s.time.clockSet = true ∧ ∃ b ∈ s.book.records, b.handle = h ∧ b.state = .pending ∧ ∃ x e, b.placement = .placed x at_ e))
       ((∀ a h, ¬ waits a h) → s.evaluateWake = s.setWake { s.wake with due := none, wakeAt := none }) ∧
       (∀ a h, waits a h → (∀ a' h', waits a' h' → a < a' ∨ (a = a' ∧ h ≤ h')) →
         (let kept : WakeUnit := { s.wake with due := some ⟨a, h⟩, wakeAt := some (a - s.link.settings.wakeLead) }
          s.evaluateWake = s.setWake (if s.time.clockSet = true ∧ a - s.link.settings.wakeLead ≤ s.time.seconds then
            { kept with host := .waking1, attempt := some ⟨0, false⟩, abandon := [] } else kept))))))

/-! ## Storage, orders and notices toward the host, Restart (R174 to R194, R211) -/

/-- STORAGE_REPORT stores free, or keeps it, and with SpaceAlarm on the projection: over every unfinished placed booking starting before the
horizon, rate × remaining / 8000 rounded up, summed and bounded, the rate DefaultRate where the Catalogue has 0 (of a service index that is
free the model reads a free value, log 64, and nothing is said of it). SpaceLow stands exactly while free is known and below need + SpaceFloor, and
is told when it is newly set. With SpaceAlarm off no evaluation is made. ACK_ALARM clears the flag and evaluates again. -/
def Obligations.StorageIsProjected : Prop :=
  (∀ s : State,
    (let counted := s.book.records.filter fun b => b.state != .finished && (match b.placement with
       | .placed _ a _ => decide (a < min (s.time.seconds + s.link.settings.spaceHorizon * 86400) maxU32)
       | _ => false)
     s.projection = (min ((counted.map fun b =>
      ((let rate := match findService s.catalogue.services b.service with
          | some v => v.rate
          | none => (Config.freeRate b.service).val
        if rate = 0 then s.link.settings.defaultRate else rate) *
        (match b.state, b.placement with
          | .stopping, _ => 0
          | _, .placed _ a e => e - max s.time.seconds a
          | _, _ => 0) + 7999) / 8000).sum) maxU32, counted.length))) ∧
  (∀ s : State,
    (let t := s.evaluateStorage
     let short := ∃ f, s.storage.free = some f ∧ f < s.projection.1 + s.link.settings.spaceFloor
     (s.link.settings.spaceAlarm = false → t = s) ∧
     (s.link.settings.spaceAlarm = true →
       t = (s.setStorage t.storage).setNotices t.notices ∧
       t.storage = ⟨s.storage.free, s.projection.1, s.projection.2, t.storage.low⟩ ∧ (t.storage.low = true ↔ short) ∧
       ((s.storage.low = true ∨ ¬ short) → t.notices = s.notices) ∧
       (∀ f, s.storage.low = false → short → s.storage.free = some f → t.notices = offerTo s.link.settings.noticeMask
         ⟨.spaceLow f s.projection.1 s.link.settings.spaceFloor s.projection.2, s.time.seconds⟩ s.notices)))) ∧
  (∀ (tag : Byte) (body : List Byte) (free : Option Nat) (s : State), parseStorageReport body = .ok free → s.takes ⟨tag, 0x54, body⟩ →
    ∃ t, exec (.storageReport tag body) s = .next t ∧ t.planner = s.planner ∧
      t.core = ((s.setStorage t.storage).setNotices t.notices).core ∧ t.link.settings = s.link.settings ∧
      t.storage.free = (match free with
        | some f => some f
        | none => s.storage.free) ∧
      (s.link.settings.spaceAlarm = true → t.storage.need = s.projection.1 ∧ t.storage.counted = s.projection.2 ∧
        (t.storage.low = true ↔ ∃ f, t.storage.free = some f ∧ f < t.storage.need + s.link.settings.spaceFloor)) ∧
      (s.link.settings.spaceAlarm = false → t.storage.need = s.storage.need ∧ t.storage.low = s.storage.low ∧
        t.notices = s.notices) ∧
      ((s.storage.low = true ∨ t.storage.low = false) → t.notices = s.notices) ∧
      (∀ f, s.storage.low = false → t.storage.low = true → t.storage.free = some f → s.link.settings.spaceAlarm = true →
        t.notices = offerTo s.link.settings.noticeMask
          ⟨.spaceLow f t.storage.need s.link.settings.spaceFloor t.storage.counted, s.time.seconds⟩ s.notices) ∧
      t.replies ⟨tag, 0x54, body⟩ .ok (.storage t.storage.free t.storage.need t.storage.counted s.link.settings.spaceFloor t.storage.low
        (if s.link.settings.spaceAlarm = true then
          t.storage.free.map fun f => decide (f < t.storage.need + s.link.settings.spaceFloor) else none))) ∧
  (∀ (tag : Byte) (s : State), s.takes ⟨tag, 0x55, []⟩ →
    ∃ t, exec (.ackAlarm tag []) s = .next t ∧ t.planner = s.planner ∧ t.core = ((s.setStorage t.storage).setNotices t.notices).core ∧
      t.replies ⟨tag, 0x55, []⟩ .ok (.acknowledged t.storage.low t.storage.need t.storage.counted t.storage.free) ∧
      (s.link.settings.spaceAlarm = false → t.unchanged s) ∧
      (s.link.settings.spaceAlarm = true → t.storage.free = s.storage.free ∧ t.storage.need = s.projection.1 ∧
        t.storage.counted = s.projection.2 ∧
        (t.storage.low = true ↔ ∃ f, s.storage.free = some f ∧ f < t.storage.need + s.link.settings.spaceFloor) ∧
        (t.storage.low = false → t.notices = s.notices) ∧
        (t.storage.low = true → s.link.settings.noticeMask.getLsbD 6 = true → s.notices.queue.length < 48 →
          t.notices.queue = s.notices.queue ++ [⟨.spaceLow (s.storage.free.getD 0) t.storage.need s.link.settings.spaceFloor
            t.storage.counted, s.time.seconds⟩])))

/-- FETCH_NOTICES hands over the undelivered orders that fit, oldest first, then the notices that fit behind them; those orders are delivered
with the timeout as it stands, those notices leave the queue, the lost flag is reported and cleared. Where orders were delivered the Wake
Unit evaluates its due instant again, from the orders still undelivered, as the statement on wake attempts says of an evaluation. Of more than 19 undelivered orders
the first 19 are handed over, and the others stand. The body of the reply is its fixed part of 4 bytes, the order records of 12 bytes and
the notice records of 20. -/
def Obligations.FetchHandsOver : Prop :=
  (∀ (tag : Byte) (orders : List Order) (notices : List Notice) (lost more : Bool),
    Reply.body ⟨tag, replyKind 0x58, .ok, .fetched orders notices lost more⟩ =
      some ([0x00, BitVec.ofNat 8 orders.length, BitVec.ofNat 8 notices.length, BitVec.ofNat 8 (markNumber [lost, more])] ++
        orders.flatMap orderRecord ++ notices.flatMap noticeRecord)) ∧
  (∀ o : Order, (orderRecord o).length = 12) ∧ (∀ n : Notice, (noticeRecord n).length = 20) ∧
  ∀ (tag : Byte) (s : State), s.takes ⟨tag, 0x58, []⟩ →
    ∃ t, exec (.fetchNotices tag []) s = .next t ∧ t.surrounds s ∧ t.planner = s.planner ∧ t.book = s.book ∧ t.links = s.links ∧
      t.monitor = s.monitor ∧ t.storage = s.storage ∧ t.notices.lost = false ∧
      (let waiting := s.orders.orders.filter fun o => !o.delivered
       let orders := waiting.take 19
       let room := (236 - 12 * orders.length) / 20
       t.notices.queue = s.notices.queue.drop room ∧ t.orders.stepHold = s.orders.stepHold ∧
       t.orders.orders.map (·.handle) = s.orders.orders.map (·.handle) ∧
       (∀ i o, s.orders.orders[i]? = some o → t.orders.orders[i]? = some (
         if o.delivered = false ∧ ((s.orders.orders.take i).filter fun o => !o.delivered).length < 19 then
           { o with delivered := true, elapsed := 0, limit := s.link.settings.orderTimeout }
         else o)) ∧
       t.wake = (if waiting = [] then s.wake else (s.setOrders t.orders).evaluateWake.wake) ∧
       ∃ more, t.replies ⟨tag, 0x58, []⟩ .ok (.fetched orders (s.notices.queue.take room) s.notices.lost more) ∧
         (more = true ↔ (∃ o ∈ t.orders.orders, o.delivered = false) ∨ t.notices.queue ≠ []))

/-- RESTART (log 19): the host is Up with no due instant, count or abandon list, WAKE is deasserted, the live claim is gone and SpaceLow clear.
The notices queued and the lost flag leave no trace, and nothing is queued when no booking is Due, Recording or Stopping. Both tuners drop
tuned multiplex, counts and change latch and keep the fault latch; one that carries a booking in Due or Stopping afterwards comes into use, with
the multiplex of the latest effective start, then of the highest handle. Each Stopping booking finishes by R48 with StopUnconfirmed, holds no
order, and is told; each Due or Recording one whose effective end, or the end of whose Open claim, is
ahead is resumed: Due again with a Start of attempt 1, not marked as issued by Running, or Armed by R116, in a gap, without LateStart. Any other Due one gets a new Start, any
other Recording one a Stop, with cause Slack at or past its AccurateSlack end and Schedule before it (log 45). Armed ones stay without
candidate. Each booking finished, resumed or stopped is told. Bookings of one step are taken in ascending handle (log 39): with no link
Starved the BookingState notices stand in the order of steps 2, 3 and 4 of R137, and the orders in that of steps 4 and 5, those of one step
by handle. The reply waits for the pass. Clock, catalogue, guide and settings stay. -/
def Obligations.RestartClears : Prop :=
  ∀ (tag : Byte) (s : State), s.takes ⟨tag, 0x02, []⟩ → s.tablesHold →
    (let resumes := fun (b : Booking) => (b.state = .due ∨ b.state = .recording) ∧
       ((∃ y a e, b.placement = .placed y a e ∧ s.time.seconds < e) ∨ ∃ c f, b.items.overrun = .opened c f ∧ s.time.seconds < f)
     ∃ t, exec (.restart tag []) s = .next t ∧ t.surrounds s ∧
      (∀ q, ∃ u, exec (.restart tag []) (s.setNotices q) = .next u ∧ u.notices = t.notices) ∧
      ((∀ b ∈ s.book.records, b.state ≠ .due ∧ b.state ≠ .recording ∧ b.state ≠ .stopping) → t.notices = ⟨[], false⟩) ∧
      (∀ x,
        (let carries := fun (b : Booking) (start : Nat) => b ∈ t.book.records ∧
           (b.state = .due ∨ b.state = .recording ∨ b.state = .stopping) ∧ ∃ e, b.placement = .placed x start e
         ((∀ b start, ¬ carries b start) → t.tuner x = ⟨.unused, (s.tuner x).faultLatch, false, none, none, none, none⟩) ∧
         ((∃ b start, carries b start) → ∃ b start, carries b start ∧
           (∀ c a, carries c a → a < start ∨ (a = start ∧ c.handle ≤ b.handle)) ∧
           (let mux := muxOf s.catalogue.services b.service
            t.tuner x = if (s.tuner x).faultLatch = true then ⟨.faulted, true, true, some mux, none, none, none⟩
              else ⟨.tuning, false, true, some mux, some 0, none, none⟩)))) ∧
      t.wake = ⟨.up, none, none, none, none, [], s.wake.failed⟩ ∧ t.lines.wake = false ∧ t.monitor.live = none ∧
      t.storage = { s.storage with low := false } ∧ t.orders.stepHold = s.orders.stepHold ∧
      (∀ b, s.booking? b.handle = some b → b.state = .stopping →
        ∃ x, t.booking? b.handle = some x ∧ x.state = .finished ∧ x.verdict = some (b.outcome .unconfirmed) ∧
          x.flags.stopUnconfirmed = true ∧ x.finishedAt = some s.time.seconds ∧ t.orderOf b.handle = none ∧
          t.tellsFinish b (b.outcome .unconfirmed)) ∧
      (∀ b, s.booking? b.handle = some b → resumes b →
        ∃ x, t.booking? b.handle = some x ∧ (x.state = .due ∨ x.state = .armed) ∧ x.flags.resumed = true ∧ x.flags.gaps = true ∧
          x.flags.lateStart = b.flags.lateStart ∧ x.placement = b.placement ∧ x.actualStart = b.actualStart ∧
          x.items.runningAt = b.items.runningAt ∧ x.items.inGap = true ∧ x.gapCount = min (b.gapCount + 1) 65535 ∧ t.tells x ∧
          (x.state = .due → t.ordered s b.handle .start b.placement.tuner? 1 false) ∧
          ((b.accurate = false ∨ b.items.runningAt ≠ none) → x.state = .due ∧ x.flags.timedFallback = b.flags.timedFallback) ∧
          (b.accurate = true → b.items.runningAt = none →
            (b.main = none ∨ ∀ r, b.items.report = some r → r.time + 600 < s.time.seconds) →
            x.state = .due ∧ x.flags.timedFallback = true) ∧
          (∀ r, b.accurate = true → b.items.runningAt = none → b.main ≠ none → b.items.report = some r → s.time.seconds ≤ r.time + 600 →
            x.state = .armed ∧ x.items.candidate = some ⟨r.status, ⟨0, false⟩, false⟩)) ∧
      (∀ b, s.booking? b.handle = some b → ¬ resumes b →
        (b.state = .due → t.ordered s b.handle .start b.placement.tuner? 1 false ∧
          ∃ x, t.booking? b.handle = some x ∧ x.state = .due ∧ x.placement = b.placement) ∧
        (b.state = .recording → t.stopsAmong s b (if b.accurate = true ∧ b.flags.timedFallback = false ∧ b.items.runningAt ≠ none ∧
          b.nominalStop + s.link.settings.accurateSlack ≤ s.time.seconds then .slack else .schedule)) ∧
        (b.state = .armed → ∃ x, t.booking? b.handle = some x ∧ x.state = .armed ∧ x.items.candidate = none ∧
          x.items.report = b.items.report)) ∧
      (let step := fun (b : Booking) (k : Nat) => s.booking? b.handle = some b ∧
         ((k = 2 ∧ b.state = .stopping) ∨ (k = 3 ∧ resumes b) ∨
           (k = 4 ∧ (b.state = .due ∨ b.state = .recording) ∧ ¬ resumes b))
       ((∀ l ∈ s.links, l.starved = false) → ∀ (b c : Booking) (k l i j : Nat) (n m : Notice), step b k → step c l →
         (k < l ∨ (k = l ∧ b.handle < c.handle)) → t.notices.queue[i]? = some n → t.notices.queue[j]? = some m →
         n.body.stateOf = some b.handle → m.body.stateOf = some c.handle → i < j) ∧
       (∀ (b c : Booking) (k l i j : Nat) (o p : Order), step b k → step c l →
         ((k = 4 ∧ l = 3) ∨ (k = l ∧ b.handle < c.handle)) → t.orders.orders[i]? = some o → t.orders.orders[j]? = some p →
         o.handle = b.handle → p.handle = c.handle → i < j)) ∧
      t.awaits (.done .ok (.restarted
        (s.book.records.filter fun b => (b.state == .due || b.state == .recording) &&
          ((match b.placement with
            | .placed _ _ e => decide (s.time.seconds < e)
            | _ => false) ||
           (match b.items.overrun with
            | .opened _ f => decide (s.time.seconds < f)
            | _ => false))).length
        (s.book.records.filter fun b => b.state = .stopping).length)))
end

