-- ==== Sys2Proof/Laws/State.lean ====
section
/-! SUPPORT. One lemma per field per update of State: what each one-block update leaves and writes. -/

namespace Sys2Proof.Machine

/-! ## setTime -/

@[simp] theorem State.setTime_time (s : State) (x : TimeBase) : (s.setTime x).time = x := rfl
@[simp] theorem State.setTime_catalogue (s : State) (x : TimeBase) : (s.setTime x).catalogue = s.catalogue := rfl
@[simp] theorem State.setTime_guide (s : State) (x : TimeBase) : (s.setTime x).guide = s.guide := rfl
@[simp] theorem State.setTime_links (s : State) (x : TimeBase) : (s.setTime x).links = s.links := rfl
@[simp] theorem State.setTime_book (s : State) (x : TimeBase) : (s.setTime x).book = s.book := rfl
@[simp] theorem State.setTime_planner (s : State) (x : TimeBase) : (s.setTime x).planner = s.planner := rfl
@[simp] theorem State.setTime_orders (s : State) (x : TimeBase) : (s.setTime x).orders = s.orders := rfl
@[simp] theorem State.setTime_monitor (s : State) (x : TimeBase) : (s.setTime x).monitor = s.monitor := rfl
@[simp] theorem State.setTime_wake (s : State) (x : TimeBase) : (s.setTime x).wake = s.wake := rfl
@[simp] theorem State.setTime_storage (s : State) (x : TimeBase) : (s.setTime x).storage = s.storage := rfl
@[simp] theorem State.setTime_notices (s : State) (x : TimeBase) : (s.setTime x).notices = s.notices := rfl
@[simp] theorem State.setTime_link (s : State) (x : TimeBase) : (s.setTime x).link = s.link := rfl
@[simp] theorem State.setTime_lines (s : State) (x : TimeBase) : (s.setTime x).lines = s.lines := rfl
@[simp] theorem State.setTime_pending (s : State) (x : TimeBase) : (s.setTime x).pending = s.pending := rfl

/-! ## setCatalogue -/

@[simp] theorem State.setCatalogue_time (s : State) (x : Catalogue) : (s.setCatalogue x).time = s.time := rfl
@[simp] theorem State.setCatalogue_catalogue (s : State) (x : Catalogue) : (s.setCatalogue x).catalogue = x := rfl
@[simp] theorem State.setCatalogue_guide (s : State) (x : Catalogue) : (s.setCatalogue x).guide = s.guide := rfl
@[simp] theorem State.setCatalogue_links (s : State) (x : Catalogue) : (s.setCatalogue x).links = s.links := rfl
@[simp] theorem State.setCatalogue_book (s : State) (x : Catalogue) : (s.setCatalogue x).book = s.book := rfl
@[simp] theorem State.setCatalogue_planner (s : State) (x : Catalogue) : (s.setCatalogue x).planner = s.planner := rfl
@[simp] theorem State.setCatalogue_orders (s : State) (x : Catalogue) : (s.setCatalogue x).orders = s.orders := rfl
@[simp] theorem State.setCatalogue_monitor (s : State) (x : Catalogue) : (s.setCatalogue x).monitor = s.monitor := rfl
@[simp] theorem State.setCatalogue_wake (s : State) (x : Catalogue) : (s.setCatalogue x).wake = s.wake := rfl
@[simp] theorem State.setCatalogue_storage (s : State) (x : Catalogue) : (s.setCatalogue x).storage = s.storage := rfl
@[simp] theorem State.setCatalogue_notices (s : State) (x : Catalogue) : (s.setCatalogue x).notices = s.notices := rfl
@[simp] theorem State.setCatalogue_link (s : State) (x : Catalogue) : (s.setCatalogue x).link = s.link := rfl
@[simp] theorem State.setCatalogue_lines (s : State) (x : Catalogue) : (s.setCatalogue x).lines = s.lines := rfl
@[simp] theorem State.setCatalogue_pending (s : State) (x : Catalogue) : (s.setCatalogue x).pending = s.pending := rfl

/-! ## setGuide -/

@[simp] theorem State.setGuide_time (s : State) (x : List Event) : (s.setGuide x).time = s.time := rfl
@[simp] theorem State.setGuide_catalogue (s : State) (x : List Event) : (s.setGuide x).catalogue = s.catalogue := rfl
@[simp] theorem State.setGuide_guide (s : State) (x : List Event) : (s.setGuide x).guide = x := rfl
@[simp] theorem State.setGuide_links (s : State) (x : List Event) : (s.setGuide x).links = s.links := rfl
@[simp] theorem State.setGuide_book (s : State) (x : List Event) : (s.setGuide x).book = s.book := rfl
@[simp] theorem State.setGuide_planner (s : State) (x : List Event) : (s.setGuide x).planner = s.planner := rfl
@[simp] theorem State.setGuide_orders (s : State) (x : List Event) : (s.setGuide x).orders = s.orders := rfl
@[simp] theorem State.setGuide_monitor (s : State) (x : List Event) : (s.setGuide x).monitor = s.monitor := rfl
@[simp] theorem State.setGuide_wake (s : State) (x : List Event) : (s.setGuide x).wake = s.wake := rfl
@[simp] theorem State.setGuide_storage (s : State) (x : List Event) : (s.setGuide x).storage = s.storage := rfl
@[simp] theorem State.setGuide_notices (s : State) (x : List Event) : (s.setGuide x).notices = s.notices := rfl
@[simp] theorem State.setGuide_link (s : State) (x : List Event) : (s.setGuide x).link = s.link := rfl
@[simp] theorem State.setGuide_lines (s : State) (x : List Event) : (s.setGuide x).lines = s.lines := rfl
@[simp] theorem State.setGuide_pending (s : State) (x : List Event) : (s.setGuide x).pending = s.pending := rfl

/-! ## setLinks -/

@[simp] theorem State.setLinks_time (s : State) (x : List Link) : (s.setLinks x).time = s.time := rfl
@[simp] theorem State.setLinks_catalogue (s : State) (x : List Link) : (s.setLinks x).catalogue = s.catalogue := rfl
@[simp] theorem State.setLinks_guide (s : State) (x : List Link) : (s.setLinks x).guide = s.guide := rfl
@[simp] theorem State.setLinks_links (s : State) (x : List Link) : (s.setLinks x).links = x := rfl
@[simp] theorem State.setLinks_book (s : State) (x : List Link) : (s.setLinks x).book = s.book := rfl
@[simp] theorem State.setLinks_planner (s : State) (x : List Link) : (s.setLinks x).planner = s.planner := rfl
@[simp] theorem State.setLinks_orders (s : State) (x : List Link) : (s.setLinks x).orders = s.orders := rfl
@[simp] theorem State.setLinks_monitor (s : State) (x : List Link) : (s.setLinks x).monitor = s.monitor := rfl
@[simp] theorem State.setLinks_wake (s : State) (x : List Link) : (s.setLinks x).wake = s.wake := rfl
@[simp] theorem State.setLinks_storage (s : State) (x : List Link) : (s.setLinks x).storage = s.storage := rfl
@[simp] theorem State.setLinks_notices (s : State) (x : List Link) : (s.setLinks x).notices = s.notices := rfl
@[simp] theorem State.setLinks_link (s : State) (x : List Link) : (s.setLinks x).link = s.link := rfl
@[simp] theorem State.setLinks_lines (s : State) (x : List Link) : (s.setLinks x).lines = s.lines := rfl
@[simp] theorem State.setLinks_pending (s : State) (x : List Link) : (s.setLinks x).pending = s.pending := rfl

/-! ## setBook -/

@[simp] theorem State.setBook_time (s : State) (x : BookingTable) : (s.setBook x).time = s.time := rfl
@[simp] theorem State.setBook_catalogue (s : State) (x : BookingTable) : (s.setBook x).catalogue = s.catalogue := rfl
@[simp] theorem State.setBook_guide (s : State) (x : BookingTable) : (s.setBook x).guide = s.guide := rfl
@[simp] theorem State.setBook_links (s : State) (x : BookingTable) : (s.setBook x).links = s.links := rfl
@[simp] theorem State.setBook_book (s : State) (x : BookingTable) : (s.setBook x).book = x := rfl
@[simp] theorem State.setBook_planner (s : State) (x : BookingTable) : (s.setBook x).planner = s.planner := rfl
@[simp] theorem State.setBook_orders (s : State) (x : BookingTable) : (s.setBook x).orders = s.orders := rfl
@[simp] theorem State.setBook_monitor (s : State) (x : BookingTable) : (s.setBook x).monitor = s.monitor := rfl
@[simp] theorem State.setBook_wake (s : State) (x : BookingTable) : (s.setBook x).wake = s.wake := rfl
@[simp] theorem State.setBook_storage (s : State) (x : BookingTable) : (s.setBook x).storage = s.storage := rfl
@[simp] theorem State.setBook_notices (s : State) (x : BookingTable) : (s.setBook x).notices = s.notices := rfl
@[simp] theorem State.setBook_link (s : State) (x : BookingTable) : (s.setBook x).link = s.link := rfl
@[simp] theorem State.setBook_lines (s : State) (x : BookingTable) : (s.setBook x).lines = s.lines := rfl
@[simp] theorem State.setBook_pending (s : State) (x : BookingTable) : (s.setBook x).pending = s.pending := rfl

/-! ## setPlanner -/

@[simp] theorem State.setPlanner_time (s : State) (x : Planner) : (s.setPlanner x).time = s.time := rfl
@[simp] theorem State.setPlanner_catalogue (s : State) (x : Planner) : (s.setPlanner x).catalogue = s.catalogue := rfl
@[simp] theorem State.setPlanner_guide (s : State) (x : Planner) : (s.setPlanner x).guide = s.guide := rfl
@[simp] theorem State.setPlanner_links (s : State) (x : Planner) : (s.setPlanner x).links = s.links := rfl
@[simp] theorem State.setPlanner_book (s : State) (x : Planner) : (s.setPlanner x).book = s.book := rfl
@[simp] theorem State.setPlanner_planner (s : State) (x : Planner) : (s.setPlanner x).planner = x := rfl
@[simp] theorem State.setPlanner_orders (s : State) (x : Planner) : (s.setPlanner x).orders = s.orders := rfl
@[simp] theorem State.setPlanner_monitor (s : State) (x : Planner) : (s.setPlanner x).monitor = s.monitor := rfl
@[simp] theorem State.setPlanner_wake (s : State) (x : Planner) : (s.setPlanner x).wake = s.wake := rfl
@[simp] theorem State.setPlanner_storage (s : State) (x : Planner) : (s.setPlanner x).storage = s.storage := rfl
@[simp] theorem State.setPlanner_notices (s : State) (x : Planner) : (s.setPlanner x).notices = s.notices := rfl
@[simp] theorem State.setPlanner_link (s : State) (x : Planner) : (s.setPlanner x).link = s.link := rfl
@[simp] theorem State.setPlanner_lines (s : State) (x : Planner) : (s.setPlanner x).lines = s.lines := rfl
@[simp] theorem State.setPlanner_pending (s : State) (x : Planner) : (s.setPlanner x).pending = s.pending := rfl

/-! ## setOrders -/

@[simp] theorem State.setOrders_time (s : State) (x : OrderUnit) : (s.setOrders x).time = s.time := rfl
@[simp] theorem State.setOrders_catalogue (s : State) (x : OrderUnit) : (s.setOrders x).catalogue = s.catalogue := rfl
@[simp] theorem State.setOrders_guide (s : State) (x : OrderUnit) : (s.setOrders x).guide = s.guide := rfl
@[simp] theorem State.setOrders_links (s : State) (x : OrderUnit) : (s.setOrders x).links = s.links := rfl
@[simp] theorem State.setOrders_book (s : State) (x : OrderUnit) : (s.setOrders x).book = s.book := rfl
@[simp] theorem State.setOrders_planner (s : State) (x : OrderUnit) : (s.setOrders x).planner = s.planner := rfl
@[simp] theorem State.setOrders_orders (s : State) (x : OrderUnit) : (s.setOrders x).orders = x := rfl
@[simp] theorem State.setOrders_monitor (s : State) (x : OrderUnit) : (s.setOrders x).monitor = s.monitor := rfl
@[simp] theorem State.setOrders_wake (s : State) (x : OrderUnit) : (s.setOrders x).wake = s.wake := rfl
@[simp] theorem State.setOrders_storage (s : State) (x : OrderUnit) : (s.setOrders x).storage = s.storage := rfl
@[simp] theorem State.setOrders_notices (s : State) (x : OrderUnit) : (s.setOrders x).notices = s.notices := rfl
@[simp] theorem State.setOrders_link (s : State) (x : OrderUnit) : (s.setOrders x).link = s.link := rfl
@[simp] theorem State.setOrders_lines (s : State) (x : OrderUnit) : (s.setOrders x).lines = s.lines := rfl
@[simp] theorem State.setOrders_pending (s : State) (x : OrderUnit) : (s.setOrders x).pending = s.pending := rfl

/-! ## setMonitor -/

@[simp] theorem State.setMonitor_time (s : State) (x : TunerMonitor) : (s.setMonitor x).time = s.time := rfl
@[simp] theorem State.setMonitor_catalogue (s : State) (x : TunerMonitor) : (s.setMonitor x).catalogue = s.catalogue := rfl
@[simp] theorem State.setMonitor_guide (s : State) (x : TunerMonitor) : (s.setMonitor x).guide = s.guide := rfl
@[simp] theorem State.setMonitor_links (s : State) (x : TunerMonitor) : (s.setMonitor x).links = s.links := rfl
@[simp] theorem State.setMonitor_book (s : State) (x : TunerMonitor) : (s.setMonitor x).book = s.book := rfl
@[simp] theorem State.setMonitor_planner (s : State) (x : TunerMonitor) : (s.setMonitor x).planner = s.planner := rfl
@[simp] theorem State.setMonitor_orders (s : State) (x : TunerMonitor) : (s.setMonitor x).orders = s.orders := rfl
@[simp] theorem State.setMonitor_monitor (s : State) (x : TunerMonitor) : (s.setMonitor x).monitor = x := rfl
@[simp] theorem State.setMonitor_wake (s : State) (x : TunerMonitor) : (s.setMonitor x).wake = s.wake := rfl
@[simp] theorem State.setMonitor_storage (s : State) (x : TunerMonitor) : (s.setMonitor x).storage = s.storage := rfl
@[simp] theorem State.setMonitor_notices (s : State) (x : TunerMonitor) : (s.setMonitor x).notices = s.notices := rfl
@[simp] theorem State.setMonitor_link (s : State) (x : TunerMonitor) : (s.setMonitor x).link = s.link := rfl
@[simp] theorem State.setMonitor_lines (s : State) (x : TunerMonitor) : (s.setMonitor x).lines = s.lines := rfl
@[simp] theorem State.setMonitor_pending (s : State) (x : TunerMonitor) : (s.setMonitor x).pending = s.pending := rfl

/-! ## setWake -/

@[simp] theorem State.setWake_time (s : State) (x : WakeUnit) : (s.setWake x).time = s.time := rfl
@[simp] theorem State.setWake_catalogue (s : State) (x : WakeUnit) : (s.setWake x).catalogue = s.catalogue := rfl
@[simp] theorem State.setWake_guide (s : State) (x : WakeUnit) : (s.setWake x).guide = s.guide := rfl
@[simp] theorem State.setWake_links (s : State) (x : WakeUnit) : (s.setWake x).links = s.links := rfl
@[simp] theorem State.setWake_book (s : State) (x : WakeUnit) : (s.setWake x).book = s.book := rfl
@[simp] theorem State.setWake_planner (s : State) (x : WakeUnit) : (s.setWake x).planner = s.planner := rfl
@[simp] theorem State.setWake_orders (s : State) (x : WakeUnit) : (s.setWake x).orders = s.orders := rfl
@[simp] theorem State.setWake_monitor (s : State) (x : WakeUnit) : (s.setWake x).monitor = s.monitor := rfl
@[simp] theorem State.setWake_wake (s : State) (x : WakeUnit) : (s.setWake x).wake = x := rfl
@[simp] theorem State.setWake_storage (s : State) (x : WakeUnit) : (s.setWake x).storage = s.storage := rfl
@[simp] theorem State.setWake_notices (s : State) (x : WakeUnit) : (s.setWake x).notices = s.notices := rfl
@[simp] theorem State.setWake_link (s : State) (x : WakeUnit) : (s.setWake x).link = s.link := rfl
@[simp] theorem State.setWake_lines (s : State) (x : WakeUnit) : (s.setWake x).lines = s.lines := rfl
@[simp] theorem State.setWake_pending (s : State) (x : WakeUnit) : (s.setWake x).pending = s.pending := rfl

/-! ## setStorage -/

@[simp] theorem State.setStorage_time (s : State) (x : Estimator) : (s.setStorage x).time = s.time := rfl
@[simp] theorem State.setStorage_catalogue (s : State) (x : Estimator) : (s.setStorage x).catalogue = s.catalogue := rfl
@[simp] theorem State.setStorage_guide (s : State) (x : Estimator) : (s.setStorage x).guide = s.guide := rfl
@[simp] theorem State.setStorage_links (s : State) (x : Estimator) : (s.setStorage x).links = s.links := rfl
@[simp] theorem State.setStorage_book (s : State) (x : Estimator) : (s.setStorage x).book = s.book := rfl
@[simp] theorem State.setStorage_planner (s : State) (x : Estimator) : (s.setStorage x).planner = s.planner := rfl
@[simp] theorem State.setStorage_orders (s : State) (x : Estimator) : (s.setStorage x).orders = s.orders := rfl
@[simp] theorem State.setStorage_monitor (s : State) (x : Estimator) : (s.setStorage x).monitor = s.monitor := rfl
@[simp] theorem State.setStorage_wake (s : State) (x : Estimator) : (s.setStorage x).wake = s.wake := rfl
@[simp] theorem State.setStorage_storage (s : State) (x : Estimator) : (s.setStorage x).storage = x := rfl
@[simp] theorem State.setStorage_notices (s : State) (x : Estimator) : (s.setStorage x).notices = s.notices := rfl
@[simp] theorem State.setStorage_link (s : State) (x : Estimator) : (s.setStorage x).link = s.link := rfl
@[simp] theorem State.setStorage_lines (s : State) (x : Estimator) : (s.setStorage x).lines = s.lines := rfl
@[simp] theorem State.setStorage_pending (s : State) (x : Estimator) : (s.setStorage x).pending = s.pending := rfl

/-! ## setNotices -/

@[simp] theorem State.setNotices_time (s : State) (x : NoticeQueue) : (s.setNotices x).time = s.time := rfl
@[simp] theorem State.setNotices_catalogue (s : State) (x : NoticeQueue) : (s.setNotices x).catalogue = s.catalogue := rfl
@[simp] theorem State.setNotices_guide (s : State) (x : NoticeQueue) : (s.setNotices x).guide = s.guide := rfl
@[simp] theorem State.setNotices_links (s : State) (x : NoticeQueue) : (s.setNotices x).links = s.links := rfl
@[simp] theorem State.setNotices_book (s : State) (x : NoticeQueue) : (s.setNotices x).book = s.book := rfl
@[simp] theorem State.setNotices_planner (s : State) (x : NoticeQueue) : (s.setNotices x).planner = s.planner := rfl
@[simp] theorem State.setNotices_orders (s : State) (x : NoticeQueue) : (s.setNotices x).orders = s.orders := rfl
@[simp] theorem State.setNotices_monitor (s : State) (x : NoticeQueue) : (s.setNotices x).monitor = s.monitor := rfl
@[simp] theorem State.setNotices_wake (s : State) (x : NoticeQueue) : (s.setNotices x).wake = s.wake := rfl
@[simp] theorem State.setNotices_storage (s : State) (x : NoticeQueue) : (s.setNotices x).storage = s.storage := rfl
@[simp] theorem State.setNotices_notices (s : State) (x : NoticeQueue) : (s.setNotices x).notices = x := rfl
@[simp] theorem State.setNotices_link (s : State) (x : NoticeQueue) : (s.setNotices x).link = s.link := rfl
@[simp] theorem State.setNotices_lines (s : State) (x : NoticeQueue) : (s.setNotices x).lines = s.lines := rfl
@[simp] theorem State.setNotices_pending (s : State) (x : NoticeQueue) : (s.setNotices x).pending = s.pending := rfl

/-! ## setLink -/

@[simp] theorem State.setLink_time (s : State) (x : LinkInterface) : (s.setLink x).time = s.time := rfl
@[simp] theorem State.setLink_catalogue (s : State) (x : LinkInterface) : (s.setLink x).catalogue = s.catalogue := rfl
@[simp] theorem State.setLink_guide (s : State) (x : LinkInterface) : (s.setLink x).guide = s.guide := rfl
@[simp] theorem State.setLink_links (s : State) (x : LinkInterface) : (s.setLink x).links = s.links := rfl
@[simp] theorem State.setLink_book (s : State) (x : LinkInterface) : (s.setLink x).book = s.book := rfl
@[simp] theorem State.setLink_planner (s : State) (x : LinkInterface) : (s.setLink x).planner = s.planner := rfl
@[simp] theorem State.setLink_orders (s : State) (x : LinkInterface) : (s.setLink x).orders = s.orders := rfl
@[simp] theorem State.setLink_monitor (s : State) (x : LinkInterface) : (s.setLink x).monitor = s.monitor := rfl
@[simp] theorem State.setLink_wake (s : State) (x : LinkInterface) : (s.setLink x).wake = s.wake := rfl
@[simp] theorem State.setLink_storage (s : State) (x : LinkInterface) : (s.setLink x).storage = s.storage := rfl
@[simp] theorem State.setLink_notices (s : State) (x : LinkInterface) : (s.setLink x).notices = s.notices := rfl
@[simp] theorem State.setLink_link (s : State) (x : LinkInterface) : (s.setLink x).link = x := rfl
@[simp] theorem State.setLink_lines (s : State) (x : LinkInterface) : (s.setLink x).lines = s.lines := rfl
@[simp] theorem State.setLink_pending (s : State) (x : LinkInterface) : (s.setLink x).pending = s.pending := rfl

/-! ## setLines -/

@[simp] theorem State.setLines_time (s : State) (x : Lines) : (s.setLines x).time = s.time := rfl
@[simp] theorem State.setLines_catalogue (s : State) (x : Lines) : (s.setLines x).catalogue = s.catalogue := rfl
@[simp] theorem State.setLines_guide (s : State) (x : Lines) : (s.setLines x).guide = s.guide := rfl
@[simp] theorem State.setLines_links (s : State) (x : Lines) : (s.setLines x).links = s.links := rfl
@[simp] theorem State.setLines_book (s : State) (x : Lines) : (s.setLines x).book = s.book := rfl
@[simp] theorem State.setLines_planner (s : State) (x : Lines) : (s.setLines x).planner = s.planner := rfl
@[simp] theorem State.setLines_orders (s : State) (x : Lines) : (s.setLines x).orders = s.orders := rfl
@[simp] theorem State.setLines_monitor (s : State) (x : Lines) : (s.setLines x).monitor = s.monitor := rfl
@[simp] theorem State.setLines_wake (s : State) (x : Lines) : (s.setLines x).wake = s.wake := rfl
@[simp] theorem State.setLines_storage (s : State) (x : Lines) : (s.setLines x).storage = s.storage := rfl
@[simp] theorem State.setLines_notices (s : State) (x : Lines) : (s.setLines x).notices = s.notices := rfl
@[simp] theorem State.setLines_link (s : State) (x : Lines) : (s.setLines x).link = s.link := rfl
@[simp] theorem State.setLines_lines (s : State) (x : Lines) : (s.setLines x).lines = x := rfl
@[simp] theorem State.setLines_pending (s : State) (x : Lines) : (s.setLines x).pending = s.pending := rfl

/-! ## setPending -/

@[simp] theorem State.setPending_time (s : State) (x : List Instr) : (s.setPending x).time = s.time := rfl
@[simp] theorem State.setPending_catalogue (s : State) (x : List Instr) : (s.setPending x).catalogue = s.catalogue := rfl
@[simp] theorem State.setPending_guide (s : State) (x : List Instr) : (s.setPending x).guide = s.guide := rfl
@[simp] theorem State.setPending_links (s : State) (x : List Instr) : (s.setPending x).links = s.links := rfl
@[simp] theorem State.setPending_book (s : State) (x : List Instr) : (s.setPending x).book = s.book := rfl
@[simp] theorem State.setPending_planner (s : State) (x : List Instr) : (s.setPending x).planner = s.planner := rfl
@[simp] theorem State.setPending_orders (s : State) (x : List Instr) : (s.setPending x).orders = s.orders := rfl
@[simp] theorem State.setPending_monitor (s : State) (x : List Instr) : (s.setPending x).monitor = s.monitor := rfl
@[simp] theorem State.setPending_wake (s : State) (x : List Instr) : (s.setPending x).wake = s.wake := rfl
@[simp] theorem State.setPending_storage (s : State) (x : List Instr) : (s.setPending x).storage = s.storage := rfl
@[simp] theorem State.setPending_notices (s : State) (x : List Instr) : (s.setPending x).notices = s.notices := rfl
@[simp] theorem State.setPending_link (s : State) (x : List Instr) : (s.setPending x).link = s.link := rfl
@[simp] theorem State.setPending_lines (s : State) (x : List Instr) : (s.setPending x).lines = s.lines := rfl
@[simp] theorem State.setPending_pending (s : State) (x : List Instr) : (s.setPending x).pending = x := rfl

end Sys2Proof.Machine
end

