-- ==== Sys2Proof/Laws/Frame.lean ====
section
/-! SUPPORT. What no shared operation touches: time, catalogue, link, lines and the waiting commands (`shell`); for the operations
on the clock and on the catalogue, link, lines and the waiting commands (`outer`). -/

namespace Sys2Proof.Machine

theorem State.outer_of_shell {s t : State} (h : s.shell = t.shell) : s.outer = t.outer := by
  simp only [State.shell, State.outer, Prod.mk.injEq] at *
  exact ⟨h.2.2.2.1, h.2.2.2.2.1, h.2.2.2.2.2⟩


@[simp] theorem State.setLinks_shell (s : State) (x : List Link) : (s.setLinks x).shell = s.shell := rfl
@[simp] theorem State.setBook_shell (s : State) (x : BookingTable) : (s.setBook x).shell = s.shell := rfl
@[simp] theorem State.setPlanner_shell (s : State) (x : Planner) : (s.setPlanner x).shell = s.shell := rfl
@[simp] theorem State.setOrders_shell (s : State) (x : OrderUnit) : (s.setOrders x).shell = s.shell := rfl
@[simp] theorem State.setMonitor_shell (s : State) (x : TunerMonitor) : (s.setMonitor x).shell = s.shell := rfl
@[simp] theorem State.setWake_shell (s : State) (x : WakeUnit) : (s.setWake x).shell = s.shell := rfl
@[simp] theorem State.setStorage_shell (s : State) (x : Estimator) : (s.setStorage x).shell = s.shell := rfl
@[simp] theorem State.setNotices_shell (s : State) (x : NoticeQueue) : (s.setNotices x).shell = s.shell := rfl

theorem foldl_shell {α : Type} (f : State → α → State) (h : ∀ s a, (f s a).shell = s.shell) (l : List α) (s : State) :
    (l.foldl f s).shell = s.shell := by
  induction l generalizing s with
  | nil => rfl
  | cons a l ih => rw [List.foldl_cons, ih, h]

@[simp] theorem ite_shell {c : Prop} [Decidable c] (s t : State) : (if c then s else t).shell = if c then s.shell else t.shell := by
  split <;> rfl

@[simp] theorem ite_fst_shell {α : Type} {c : Prop} [Decidable c] (p q : State × α) :
    (if c then p else q).1.shell = if c then p.1.shell else q.1.shell := by
  split <;> rfl

@[simp] theorem State.modBooking_shell (s : State) (h : Nat) (f : Booking → Booking) : (s.modBooking h f).shell = s.shell := by
  unfold State.modBooking
  repeat' split
  all_goals simp
@[simp] theorem State.modItems_shell (s : State) (h : Nat) (f : OrderItems → OrderItems) : (s.modItems h f).shell = s.shell := by
  unfold State.modItems
  repeat' split
  all_goals simp
@[simp] theorem State.trigger_shell (s : State) : (s.trigger).shell = s.shell := by
  unfold State.trigger
  repeat' split
  all_goals simp
@[simp] theorem State.markChanged_shell (s : State) (h : Nat) : (s.markChanged h).shell = s.shell := by
  unfold State.markChanged
  repeat' split
  all_goals simp
@[simp] theorem State.bookingChanged_shell (s : State) (h : Nat) : (s.bookingChanged h).shell = s.shell := by
  unfold State.bookingChanged
  repeat' split
  all_goals simp
@[simp] theorem State.leavesPlan_shell (s : State) (h : Nat) : (s.leavesPlan h).shell = s.shell := by
  unfold State.leavesPlan
  repeat' split
  all_goals simp
@[simp] theorem State.opensInPass_shell (s : State) : (s.opensInPass).shell = s.shell := by
  unfold State.opensInPass
  repeat' split
  all_goals simp
@[simp] theorem State.liveClaimChanged_shell (s : State) : (s.liveClaimChanged).shell = s.shell := by
  unfold State.liveClaimChanged
  repeat' split
  all_goals simp
@[simp] theorem State.offer_shell (s : State) (body : NoticeBody) : (s.offer body).shell = s.shell := by
  unfold State.offer
  repeat' split
  all_goals simp
@[simp] theorem State.noteState_shell (s : State) (h : Nat) : (s.noteState h).shell = s.shell := by
  unfold State.noteState
  repeat' split
  all_goals simp
@[simp] theorem State.setOrderList_shell (s : State) (orders : List Order) : (s.setOrderList orders).shell = s.shell := by
  unfold State.setOrderList
  repeat' split
  all_goals simp
@[simp] theorem State.evaluateWake_shell (s : State) : (s.evaluateWake).shell = s.shell := by
  unfold State.evaluateWake
  repeat' split
  all_goals simp
@[simp] theorem State.afterRemoval_shell (s : State) (old : Option Order) : (s.afterRemoval old).shell = s.shell := by
  unfold State.afterRemoval
  repeat' split
  all_goals simp
@[simp] theorem State.issue_shell (s : State) (kind : OrderKind) (h : Nat) (tuner : Option TunerId) (attempt : Nat) (onRunning : Bool) : (s.issue kind h tuner attempt onRunning).shell = s.shell := by
  unfold State.issue
  repeat' split
  all_goals simp
@[simp] theorem State.removeOrder_shell (s : State) (h : Nat) : (s.removeOrder h).shell = s.shell := by
  unfold State.removeOrder
  repeat' split
  all_goals simp
@[simp] theorem State.stop_shell (s : State) (h : Nat) (cause : StopCause) (truncated : Bool) : (s.stop h cause truncated).shell = s.shell := by
  unfold State.stop
  repeat' split
  all_goals simp
@[simp] theorem State.takeFromAlternatives_shell (s : State) (ref : EventRef) : (s.takeFromAlternatives ref).shell = s.shell := by
  unfold State.takeFromAlternatives
  exact foldl_shell _ (fun _ _ => by simp) _ _
theorem State.create_shell {s t : State} {make : Nat → Booking} {h : Nat} (hc : s.create make = some (h, t)) : t.shell = s.shell := by
  unfold State.create at hc
  split at hc
  · simp only [Option.some.injEq, Prod.mk.injEq] at hc
    rw [← hc.2]
    simp
  · simp at hc

@[simp] theorem State.modLink_shell (s : State) (index : Nat) (f : Link → Link) : (s.modLink index f).shell = s.shell := by
  unfold State.modLink
  repeat' split
  all_goals simp
@[simp] theorem State.starve_shell (s : State) (index : Nat) : (s.starve index).shell = s.shell := by
  unfold State.starve
  repeat' split
  all_goals simp
@[simp] theorem State.settleStarved_shell (s : State) (index : Nat) (refused : Bool) : (s.settleStarved index refused).shell = s.shell := by
  unfold State.settleStarved
  repeat' split
  all_goals simp
@[simp] theorem State.createOnEvent_shell (s : State) (l : Link) (e : Event) : (s.createOnEvent l e).state.shell = s.shell := by
  unfold State.createOnEvent
  split
  · simp
  · rename_i hc
    simp [State.create_shell hc]

@[simp] theorem State.addAlternative_shell (s : State) (b : Booking) (e : Event) : (s.addAlternative b e).shell = s.shell := by
  unfold State.addAlternative
  repeat' split
  all_goals simp
@[simp] theorem State.switchAiring_shell (s : State) (b : Booking) (e : Event) : (s.switchAiring b e).shell = s.shell := by
  unfold State.switchAiring
  repeat' split
  all_goals simp
@[simp] theorem State.matchEpisode_shell (s : State) (l : Link) (e : Event) (key : Nat) (history : List Nat) : ((s.matchEpisode l e key history).state).shell = s.shell := by
  unfold State.matchEpisode
  repeat' split
  all_goals simp
@[simp] theorem State.matchOne_shell (s : State) (index : Nat) (e : Event) : ((s.matchOne index e).state).shell = s.shell := by
  unfold State.matchOne
  repeat' split
  all_goals simp
theorem foldl_matched_shell {α : Type} (f : Matched → α → Matched) (h : ∀ m a, (f m a).state.shell = m.state.shell) (l : List α)
    (m : Matched) : (l.foldl f m).state.shell = m.state.shell := by
  induction l generalizing m with
  | nil => rfl
  | cons a l ih => rw [List.foldl_cons, ih, h]

@[simp] theorem State.matchAll_shell (s : State) (index : Nat) (events : List Event) :
    (s.matchAll index events).state.shell = s.shell := by
  unfold State.matchAll
  exact foldl_matched_shell _ (fun _ _ => by simp) _ _

@[simp] theorem State.fullMatch_shell (s : State) (index : Nat) : ((s.fullMatch index).state).shell = s.shell := by
  unfold State.fullMatch
  repeat' split
  all_goals simp
@[simp] theorem State.modOccurrences_shell (s : State) (index : Nat) (f : List Occurrence → List Occurrence) : (s.modOccurrences index f).shell = s.shell := by
  unfold State.modOccurrences
  repeat' split
  all_goals simp
@[simp] theorem State.bookDay_shell (s : State) (l : Link) (service : Nat) (weekdays : BitVec 7) (minute duration : Nat) (day : Int) :
    (s.bookDay l service weekdays minute duration day).state.shell = s.shell := by
  unfold State.bookDay
  repeat' split
  all_goals first
    | simp; done
    | (rename_i hc; simp [State.create_shell hc])

@[simp] theorem State.retimeEntry_shell (s : State) (l : Link) (minute duration : Nat) (o : Occurrence) : (s.retimeEntry l minute duration o).shell = s.shell := by
  unfold State.retimeEntry
  repeat' split
  all_goals simp
@[simp] theorem State.instantiate_shell (s : State) (index : Nat) (retime : Bool) : (s.instantiate index retime).state.shell = s.shell := by
  unfold State.instantiate
  repeat' split
  all_goals simp [foldl_matched_shell, foldl_shell]

@[simp] theorem State.instantiateAll_shell (s : State) (retime : Bool) : (s.instantiateAll retime).shell = s.shell := by
  unfold State.instantiateAll
  exact foldl_shell _ (fun _ _ => by simp) _ _

@[simp] theorem State.retry_shell (s : State) (index : Nat) : (s.retry index).shell = s.shell := by
  unfold State.retry
  repeat' split
  all_goals simp
@[simp] theorem State.retryStarved_shell (s : State) : s.retryStarved.shell = s.shell := by
  unfold State.retryStarved
  exact foldl_shell _ (fun _ _ => by simp) _ _

@[simp] theorem State.matchBatch_shell (s : State) (events : List Event) : (s.matchBatch events).shell = s.shell := by
  unfold State.matchBatch
  simp [foldl_shell]

@[simp] theorem State.keepHistory_shell (s : State) (b : Booking) (v : Verdict) : (s.keepHistory b v).shell = s.shell := by
  unfold State.keepHistory
  repeat' split
  all_goals simp
@[simp] theorem State.setTuner_shell (s : State) (x : TunerId) (t : Tuner) : (s.setTuner x t).shell = s.shell := by
  unfold State.setTuner
  repeat' split
  all_goals simp
@[simp] theorem State.beginGap_shell (s : State) (h : Nat) : (s.beginGap h).shell = s.shell := by
  unfold State.beginGap
  repeat' split
  all_goals simp
@[simp] theorem State.endGap_shell (s : State) (h : Nat) : (s.endGap h).shell = s.shell := by
  unfold State.endGap
  repeat' split
  all_goals simp
@[simp] theorem State.endGapOfTuner_shell (s : State) (h : Nat) : (s.endGapOfTuner h).shell = s.shell := by
  unfold State.endGapOfTuner
  repeat' split
  all_goals simp
@[simp] theorem State.gapsBegin_shell (s : State) (x : TunerId) : (s.gapsBegin x).shell = s.shell := by
  unfold State.gapsBegin
  exact foldl_shell _ (fun _ _ => by simp) _ _
@[simp] theorem State.gapsEnd_shell (s : State) (x : TunerId) : (s.gapsEnd x).shell = s.shell := by
  unfold State.gapsEnd
  exact foldl_shell _ (fun _ _ => by simp) _ _
@[simp] theorem State.changeTuner_shell (s : State) (x : TunerId) (new : Tuner) (cause : ChangeCause) : (s.changeTuner x new cause).shell = s.shell := by
  unfold State.changeTuner
  repeat' split
  all_goals simp
@[simp] theorem State.comeIntoUse_shell (s : State) (x : TunerId) : (s.comeIntoUse x).shell = s.shell := by
  unfold State.comeIntoUse
  repeat' split
  all_goals simp
@[simp] theorem State.goOutOfUse_shell (s : State) (x : TunerId) : (s.goOutOfUse x).shell = s.shell := by
  unfold State.goOutOfUse
  repeat' split
  all_goals simp
@[simp] theorem State.evaluateUse_shell (s : State) (x : TunerId) : (s.evaluateUse x).shell = s.shell := by
  unfold State.evaluateUse
  repeat' split
  all_goals simp
@[simp] theorem State.evaluateTuners_shell (s : State) : (s.evaluateTuners).shell = s.shell := by
  unfold State.evaluateTuners
  repeat' split
  all_goals simp
@[simp] theorem State.arrive_shell (s : State) (x : TunerId) (mux : Nat) : (s.arrive x mux).shell = s.shell := by
  unfold State.arrive
  repeat' split
  all_goals simp
@[simp] theorem State.bookingArrives_shell (s : State) (h : Nat) : (s.bookingArrives h).shell = s.shell := by
  unfold State.bookingArrives
  repeat' split
  all_goals simp
@[simp] theorem State.setLatch_shell (s : State) (x : TunerId) : (s.setLatch x).shell = s.shell := by
  unfold State.setLatch
  repeat' split
  all_goals simp
@[simp] theorem State.faultRises_shell (s : State) (x : TunerId) : (s.faultRises x).shell = s.shell := by
  unfold State.faultRises
  repeat' split
  all_goals simp
@[simp] theorem State.leaveAbandon_shell (s : State) (h : Nat) : (s.leaveAbandon h).shell = s.shell := by
  unfold State.leaveAbandon
  repeat' split
  all_goals simp
@[simp] theorem State.finishCore_shell (s : State) (h : Nat) (v : Verdict) (unconfirmed : Bool) : (s.finishCore h v unconfirmed).shell = s.shell := by
  unfold State.finishCore
  repeat' split
  all_goals simp
@[simp] theorem State.finish_shell (s : State) (h : Nat) (v : Verdict) (unconfirmed : Bool) : (s.finish h v unconfirmed).shell = s.shell := by
  unfold State.finish
  repeat' split
  all_goals simp
@[simp] theorem State.finishByOutcome_shell (s : State) (h : Nat) (reason : Reason) (unconfirmed : Bool) : (s.finishByOutcome h reason unconfirmed).shell = s.shell := by
  unfold State.finishByOutcome
  repeat' split
  all_goals simp
@[simp] theorem State.removeRecords_shell (s : State) (old : Booking → Bool) : (s.removeRecords old).shell = s.shell := by
  unfold State.removeRecords
  repeat' split
  all_goals simp
@[simp] theorem State.enterDue_shell (s : State) (h : Nat) (onRunning resumed : Bool) : (s.enterDue h onRunning resumed).shell = s.shell := by
  unfold State.enterDue
  repeat' split
  all_goals simp
@[simp] theorem State.openBooking_shell (s : State) (h : Nat) (resumed : Bool) : (s.openBooking h resumed).shell = s.shell := by
  unfold State.openBooking
  repeat' split
  all_goals simp
@[simp] theorem State.testOpening_shell (s : State) (h : Nat) : (s.testOpening h).shell = s.shell := by
  unfold State.testOpening
  repeat' split
  all_goals simp
@[simp] theorem State.backToPending_shell (s : State) (h : Nat) : (s.backToPending h).shell = s.shell := by
  unfold State.backToPending
  repeat' split
  all_goals simp
@[simp] theorem State.endRule_shell (s : State) (h : Nat) : (s.endRule h).shell = s.shell := by
  unfold State.endRule
  repeat' split
  all_goals simp
@[simp] theorem State.endRuleUnlessOpen_shell (s : State) (h : Nat) : (s.endRuleUnlessOpen h).shell = s.shell := by
  unfold State.endRuleUnlessOpen
  repeat' split
  all_goals simp
@[simp] theorem State.notRunningStops_shell (s : State) (h : Nat) : (s.notRunningStops h).shell = s.shell := by
  unfold State.notRunningStops
  repeat' split
  all_goals simp
@[simp] theorem State.takeEffect_shell (s : State) (b : Booking) (status : RunStatus) : (s.takeEffect b status).shell = s.shell := by
  unfold State.takeEffect
  repeat' split
  all_goals simp
@[simp] theorem State.completeHold_shell (s : State) (h : Nat) : (s.completeHold h).shell = s.shell := by
  unfold State.completeHold
  repeat' split
  all_goals simp
@[simp] theorem State.slackRule_shell (s : State) (h : Nat) : (s.slackRule h).shell = s.shell := by
  unfold State.slackRule
  repeat' split
  all_goals simp
theorem State.eachBooking_shell (rule : State → Nat → State) (hr : ∀ s h, (rule s h).shell = s.shell) (s : State) :
    (s.eachBooking rule).shell = s.shell := foldl_shell _ hr _ _

@[simp] theorem State.judgeSpace_shell (s : State) : (s.judgeSpace).shell = s.shell := by
  unfold State.judgeSpace
  repeat' split
  all_goals simp
@[simp] theorem State.evaluateStorage_shell (s : State) : (s.evaluateStorage).shell = s.shell := by
  unfold State.evaluateStorage
  repeat' split
  all_goals simp
@[simp] theorem State.startPass_shell (s : State) : (s.startPass).shell = s.shell := by
  unfold State.startPass
  repeat' split
  all_goals simp
@[simp] theorem State.takeTriggers_shell (s : State) : (s.takeTriggers).shell = s.shell := by
  unfold State.takeTriggers
  repeat' split
  all_goals simp
@[simp] theorem State.writeResult_shell (s : State) (r : BookingResult) : (s.writeResult r).shell = s.shell := by
  unfold State.writeResult
  repeat' split
  all_goals simp
@[simp] theorem State.writeClaim_shell (s : State) (r : ClaimResult) : (s.writeClaim r).shell = s.shell := by
  unfold State.writeClaim
  repeat' split
  all_goals simp
@[simp] theorem State.compareWritten_shell (s : State) (h : Nat) (chosen : Bool) : (s.compareWritten h chosen).shell = s.shell := by
  unfold State.compareWritten
  repeat' split
  all_goals simp
@[simp] theorem State.applyClaim_shell (s : State) (r : ClaimResult) : (s.applyClaim r).shell = s.shell := by
  unfold State.applyClaim
  repeat' split
  all_goals simp
@[simp] theorem State.countStepHold_shell (s : State) : (s.countStepHold).shell = s.shell := by
  unfold State.countStepHold
  repeat' split
  all_goals simp
@[simp] theorem State.openAtPassEnd_shell (s : State) (written : List BookingResult) : (s.openAtPassEnd written).shell = s.shell := by
  unfold State.openAtPassEnd
  simp [foldl_shell]
@[simp] theorem State.handLive_shell (s : State) (l : LivePlacement) : (s.handLive l).shell = s.shell := by
  unfold State.handLive
  repeat' split
  all_goals simp
@[simp] theorem State.handLiveResult_shell (s : State) (p : Pass) (live : Option LivePlacement) : (s.handLiveResult p live).shell = s.shell := by
  unfold State.handLiveResult
  repeat' split
  all_goals simp
@[simp] theorem State.closePass_shell (s : State) (p : Pass) : (s.closePass p).shell = s.shell := by
  unfold State.closePass
  repeat' split
  all_goals simp
@[simp] theorem State.writePass_shell (s : State) (p : Pass) (r : PassResult) : (s.writePass p r).shell = s.shell := by
  unfold State.writePass
  simp [foldl_shell]
@[simp] theorem State.bookingStep_shell (s : State) : (s.bookingStep).shell = s.shell := by
  unfold State.bookingStep
  refine State.eachBooking_shell _ (fun s h => ?_) _
  repeat' split
  all_goals simp
@[simp] theorem State.stepEnds_shell (s : State) : (s.stepEnds).shell = s.shell := by
  unfold State.stepEnds
  refine State.eachBooking_shell _ (fun s h => ?_) _
  repeat' split
  all_goals simp
@[simp] theorem State.stepSlack_shell (s : State) : (s.stepSlack).shell = s.shell := by
  unfold State.stepSlack
  refine State.eachBooking_shell _ (fun s h => ?_) _
  repeat' split
  all_goals simp
@[simp] theorem State.stepArmed_shell (s : State) : (s.stepArmed).shell = s.shell := by
  unfold State.stepArmed
  refine State.eachBooking_shell _ (fun s h => ?_) _
  repeat' split
  all_goals simp
@[simp] theorem State.stepDue_shell (s : State) : (s.stepDue).shell = s.shell := by
  unfold State.stepDue
  refine State.eachBooking_shell _ (fun s h => ?_) _
  repeat' split
  all_goals simp
@[simp] theorem State.setStepHold_shell (s : State) : (s.setStepHold).shell = s.shell := by
  unfold State.setStepHold
  repeat' split
  all_goals simp
@[simp] theorem State.orderStep_shell (s : State) (old : Nat) : (s.orderStep old).shell = s.shell := by
  unfold State.orderStep
  repeat' split
  all_goals simp
@[simp] theorem State.forgetReached_shell (s : State) : (s.forgetReached).shell = s.shell := by
  unfold State.forgetReached
  repeat' split
  all_goals simp
@[simp] theorem State.guideChange_shell (s : State) (h : Nat) (f : Booking → Booking) : (s.guideChange h f).shell = s.shell := by
  unfold State.guideChange
  repeat' split
  all_goals simp
@[simp] theorem State.follow_shell (s : State) (b : Booking) (old new : Event) : (s.follow b old new).shell = s.shell := by
  unfold State.follow
  repeat' split
  all_goals simp
@[simp] theorem State.mainRemoved_shell (s : State) (b : Booking) : (s.mainRemoved b).shell = s.shell := by
  unfold State.mainRemoved
  repeat' split
  all_goals simp
@[simp] theorem State.losesEvent_shell (s : State) (ref : EventRef) (h : Nat) : (s.losesEvent ref h).shell = s.shell := by
  unfold State.losesEvent
  repeat' split
  all_goals simp
@[simp] theorem State.eventRemoved_shell (s : State) (ref : EventRef) : (s.eventRemoved ref).shell = s.shell :=
  State.eachBooking_shell _ (fun _ _ => by simp) _
@[simp] theorem State.takesUpdate_shell (s : State) (old new : Event) (h : Nat) : (s.takesUpdate old new h).shell = s.shell := by
  unfold State.takesUpdate
  repeat' split
  all_goals simp
@[simp] theorem State.eventUpdated_shell (s : State) (old new : Event) : (s.eventUpdated old new).shell = s.shell :=
  State.eachBooking_shell _ (fun _ _ => by simp) _
@[simp] theorem State.restartNotices_shell (s : State) : (s.restartNotices).shell = s.shell := by
  unfold State.restartNotices
  repeat' split
  all_goals simp
@[simp] theorem State.restartTuners_shell (s : State) : (s.restartTuners).shell = s.shell := by
  unfold State.restartTuners
  repeat' split
  all_goals simp
@[simp] theorem State.restartWake_shell (s : State) : (s.restartWake).shell = s.shell := by
  unfold State.restartWake
  repeat' split
  all_goals simp
@[simp] theorem State.restartOrders_shell (s : State) : (s.restartOrders).shell = s.shell := by
  unfold State.restartOrders
  repeat' split
  all_goals simp
@[simp] theorem State.restartStopping_shell (s : State) (h : Nat) : (s.restartStopping h).shell = s.shell := by
  unfold State.restartStopping
  repeat' split
  all_goals simp
@[simp] theorem State.resumeBooking_shell (s : State) (h : Nat) : (s.resumeBooking h).shell = s.shell := by
  unfold State.resumeBooking
  repeat' split
  all_goals simp
@[simp] theorem State.keepAtRestart_shell (s : State) (h : Nat) : (s.keepAtRestart h).shell = s.shell := by
  unfold State.keepAtRestart
  repeat' split
  all_goals simp
@[simp] theorem State.restartBookings_shell (s : State) (stopping resumed kept : List Nat) : (s.restartBookings stopping resumed kept).shell = s.shell := by
  unfold State.restartBookings
  simp [foldl_shell]
@[simp] theorem State.restart_shell (s : State) : (s.restart.1).shell = s.shell := by
  unfold State.restart
  repeat' split
  all_goals simp
@[simp] theorem State.feedModeChanged_shell (s : State) : (s.feedModeChanged).shell = s.shell := by
  unfold State.feedModeChanged
  repeat' split
  all_goals simp
@[simp] theorem State.purgeAged_shell (s : State) : (s.purgeAged).shell = s.shell := by
  unfold State.purgeAged
  repeat' split
  all_goals simp
@[simp] theorem State.slackChanged_shell (s : State) : (s.slackChanged).shell = s.shell := State.eachBooking_shell _ (fun _ _ => by simp) _
@[simp] theorem State.runHoldRule_shell (s : State) (h : Nat) : (s.runHoldRule h).shell = s.shell := by
  unfold State.runHoldRule
  repeat' split
  all_goals simp
@[simp] theorem State.runHoldChanged_shell (s : State) : (s.runHoldChanged).shell = s.shell :=
  State.eachBooking_shell _ (fun _ _ => by simp) _
@[simp] theorem State.losesSignal_shell (s : State) (x : TunerId) : (s.losesSignal x).shell = s.shell := by
  unfold State.losesSignal
  simp
@[simp] theorem State.completeLoss_shell (s : State) (x : TunerId) : (s.completeLoss x).shell = s.shell := by
  unfold State.completeLoss
  repeat' split
  all_goals simp
@[simp] theorem State.lossHoldChanged_shell (s : State) : (s.lossHoldChanged).shell = s.shell := by
  unfold State.lossHoldChanged
  repeat' split
  all_goals simp
@[simp] theorem State.wakeModeChanged_shell (s : State) : (s.wakeModeChanged).shell = s.shell := by
  unfold State.wakeModeChanged
  repeat' split
  all_goals simp
@[simp] theorem State.wakeFails_shell (s : State) (attempt : Nat) : (s.wakeFails attempt).shell = s.shell := by
  unfold State.wakeFails
  repeat' split
  all_goals simp
@[simp] theorem State.attemptCompletes_shell (s : State) : (s.attemptCompletes).shell = s.shell := by
  unfold State.attemptCompletes
  repeat' split
  all_goals simp
@[simp] theorem State.wakeTimeoutChanged_shell (s : State) : (s.wakeTimeoutChanged).shell = s.shell := by
  unfold State.wakeTimeoutChanged
  repeat' split
  all_goals simp
@[simp] theorem State.spaceAlarmChanged_shell (s : State) : (s.spaceAlarmChanged).shell = s.shell := by
  unfold State.spaceAlarmChanged
  repeat' split
  all_goals simp
@[simp] theorem State.noticeMaskChanged_shell (s : State) : (s.noticeMaskChanged).shell = s.shell := by
  unfold State.noticeMaskChanged
  repeat' split
  all_goals simp
@[simp] theorem State.bookEvent_shell (s : State) (ref : EventRef) (o : Options) : (s.bookEvent ref o).1.shell = s.shell := by
  unfold State.bookEvent
  repeat' (first | split | dsimp only)
  all_goals first
    | simp; done
    | (rename_i hc; simp [State.create_shell hc])

@[simp] theorem State.bookTime_shell (s : State) (f : TimeFields) (o : Options) : (s.bookTime f o).1.shell = s.shell := by
  unfold State.bookTime
  repeat' (first | split | dsimp only)
  all_goals first
    | simp; done
    | (rename_i hc; simp [State.create_shell hc])

@[simp] theorem State.amendPlanned_shell (s : State) (b : Booking) (o : Options) : ((s.amendPlanned b o).1).shell = s.shell := by
  unfold State.amendPlanned
  repeat' split
  all_goals simp
@[simp] theorem State.amendRecording_shell (s : State) (b : Booking) (o : Options) : ((s.amendRecording b o).1).shell = s.shell := by
  unfold State.amendRecording
  repeat' split
  all_goals simp
@[simp] theorem State.amend_shell (s : State) (h : Nat) (o : Options) : ((s.amend h o).1).shell = s.shell := by
  unfold State.amend
  repeat' split
  all_goals simp
@[simp] theorem State.cancelPlanned_shell (s : State) (h : Nat) : ((s.cancelPlanned h).1).shell = s.shell := by
  unfold State.cancelPlanned
  repeat' split
  all_goals simp
@[simp] theorem State.cancelRunning_shell (s : State) (h : Nat) : ((s.cancelRunning h).1).shell = s.shell := by
  unfold State.cancelRunning
  repeat' split
  all_goals simp
@[simp] theorem State.cancel_shell (s : State) (h : Nat) : ((s.cancel h).1).shell = s.shell := by
  unfold State.cancel
  repeat' split
  all_goals simp
@[simp] theorem State.purge_shell (s : State) (h : Nat) : ((s.purge h).1).shell = s.shell := by
  unfold State.purge
  repeat' split
  all_goals simp
@[simp] theorem State.addLink_shell (s : State) (l : Link) : (s.addLink l).shell = s.shell := by
  unfold State.addLink
  repeat' split
  all_goals simp
@[simp] theorem State.linkSeries_shell (s : State) (f : SeriesFields) (o : Options) : ((s.linkSeries f o).1).shell = s.shell := by
  unfold State.linkSeries
  repeat' split
  all_goals simp [linkReply]
@[simp] theorem State.linkSlot_shell (s : State) (f : SlotFields) (o : Options) : ((s.linkSlot f o).1).shell = s.shell := by
  unfold State.linkSlot
  repeat' split
  all_goals simp [linkReply]
@[simp] theorem State.rewriteOrigin_shell (s : State) (h : Nat) : (s.rewriteOrigin h).shell = s.shell := by
  unfold State.rewriteOrigin
  repeat' split
  all_goals simp
@[simp] theorem State.unlink_shell (s : State) (index : Nat) (keep : Bool) : ((s.unlink index keep).1).shell = s.shell := by
  unfold State.unlink
  repeat' split
  all_goals simp [foldl_shell]
@[simp] theorem State.liveClaim_shell (s : State) (mux : Nat) (named : TunerId) : ((s.liveClaim mux named).1).shell = s.shell := by
  unfold State.liveClaim
  repeat' split
  all_goals simp
@[simp] theorem State.releaseLive_shell (s : State) : (s.releaseLive).shell = s.shell := by
  unfold State.releaseLive
  repeat' split
  all_goals simp
@[simp] theorem State.clearFault_shell (s : State) (x : TunerId) : ((s.clearFault x).1).shell = s.shell := by
  unfold State.clearFault
  repeat' split
  all_goals simp
@[simp] theorem State.clearChanges_shell (s : State) : (s.clearChanges).shell = s.shell := by
  unfold State.clearChanges
  repeat' split
  all_goals simp
@[simp] theorem State.completeGrace_shell (s : State) (x : TunerId) : (s.completeGrace x).shell = s.shell := by
  unfold State.completeGrace
  repeat' split
  all_goals simp
@[simp] theorem State.lockRises_shell (s : State) (x : TunerId) : (s.lockRises x).shell = s.shell := by
  unfold State.lockRises
  dsimp only
  repeat' split
  all_goals simp
@[simp] theorem State.lockFalls_shell (s : State) (x : TunerId) : (s.lockFalls x).shell = s.shell := by
  unfold State.lockFalls
  dsimp only
  repeat' split
  all_goals simp
@[simp] theorem State.runStatus_shell (s : State) (ref : EventRef) (status : RunStatus) : ((s.runStatus ref status).1).shell = s.shell := by
  unfold State.runStatus
  repeat' split
  all_goals simp
@[simp] theorem State.reportReply_shell (s : State) (r : Result) (h : Nat) : ((s.reportReply r h).1).shell = s.shell := by
  unfold State.reportReply
  repeat' split
  all_goals simp
@[simp] theorem State.begunReply_shell (s : State) (h : Nat) : ((s.begunReply h).1).shell = s.shell := by
  unfold State.begunReply
  repeat' split
  all_goals simp
@[simp] theorem State.reportRefused_shell (s : State) (r : Result) (b : Booking) : ((s.reportRefused r b).1).shell = s.shell := by
  unfold State.reportRefused
  repeat' split
  all_goals simp
@[simp] theorem State.beginRecording_shell (s : State) (b : Booking) : (s.beginRecording b).shell = s.shell := by
  unfold State.beginRecording
  repeat' split
  all_goals simp
@[simp] theorem State.begun_shell (s : State) (b : Booking) : ((s.begun b).1).shell = s.shell := by
  unfold State.begun
  repeat' split
  all_goals simp
@[simp] theorem State.setActualStop_shell (s : State) (h : Nat) : (s.setActualStop h).shell = s.shell := by
  unfold State.setActualStop
  repeat' split
  all_goals simp
@[simp] theorem State.ended_shell (s : State) (b : Booking) : ((s.ended b).1).shell = s.shell := by
  unfold State.ended
  repeat' split
  all_goals simp
@[simp] theorem State.refusedByHost_shell (s : State) (b : Booking) : ((s.refusedByHost b).1).shell = s.shell := by
  unfold State.refusedByHost
  repeat' split
  all_goals simp
@[simp] theorem State.faultInRecording_shell (s : State) (h : Nat) : (s.faultInRecording h).shell = s.shell := by
  unfold State.faultInRecording
  dsimp only
  repeat' split
  all_goals simp
@[simp] theorem State.faultReported_shell (s : State) (b : Booking) : ((s.faultReported b).1).shell = s.shell := by
  unfold State.faultReported
  repeat' split
  all_goals simp
@[simp] theorem State.dropMove_shell (s : State) (h : Nat) : (s.dropMove h).shell = s.shell := by
  unfold State.dropMove
  repeat' split
  all_goals simp
@[simp] theorem State.judgeGap_shell (s : State) (h : Nat) : (s.judgeGap h).shell = s.shell := by
  unfold State.judgeGap
  repeat' split
  all_goals simp
@[simp] theorem State.moveBooking_shell (s : State) (b : Booking) (t : MoveTarget) : (s.moveBooking b t).shell = s.shell := by
  unfold State.moveBooking
  repeat' split
  all_goals simp
@[simp] theorem State.moved_shell (s : State) (b : Booking) : ((s.moved b).1).shell = s.shell := by
  unfold State.moved
  repeat' split
  all_goals simp
@[simp] theorem State.hostReady_shell (s : State) : (s.hostReady.1).shell = s.shell := by
  unfold State.hostReady
  repeat' split
  all_goals simp
@[simp] theorem State.forceStops_shell (s : State) (handles : List Nat) : (s.forceStops handles).shell = s.shell := foldl_shell _ (fun _ _ => by simp) _ _
@[simp] theorem State.hostSleeps_shell (s : State) : (s.hostSleeps).shell = s.shell := by
  unfold State.hostSleeps
  repeat' split
  all_goals simp
@[simp] theorem State.hostStandby_shell (s : State) (force : Bool) : ((s.hostStandby force).1).shell = s.shell := by
  unfold State.hostStandby
  repeat' split
  all_goals simp
@[simp] theorem State.storageReport_shell (s : State) (free : Option Nat) : ((s.storageReport free).1).shell = s.shell := by
  unfold State.storageReport
  dsimp only
  repeat' split
  all_goals simp
@[simp] theorem State.ackAlarm_shell (s : State) : (s.ackAlarm.1).shell = s.shell := by
  unfold State.ackAlarm
  repeat' split
  all_goals simp
@[simp] theorem State.fetch_shell (s : State) : (s.fetch.1).shell = s.shell := by
  unfold State.fetch
  repeat' split
  all_goals simp
@[simp] theorem State.riseAtRelease_shell (s : State) : (s.riseAtRelease).shell = s.shell := by
  unfold State.riseAtRelease
  repeat' split
  all_goals simp
@[simp] theorem State.reachEnd_shell (s : State) (h : Nat) : (s.reachEnd h).shell = s.shell := by
  unfold State.reachEnd
  repeat' split
  all_goals simp
@[simp] theorem State.startTimesOut_shell (s : State) (h : Nat) : (s.startTimesOut h).shell = s.shell := by
  unfold State.startTimesOut
  repeat' split
  all_goals simp
@[simp] theorem State.issueMove_shell (s : State) (h : Nat) (t : MoveTarget) : (s.issueMove h t).shell = s.shell := by
  unfold State.issueMove
  repeat' split
  all_goals simp
@[simp] theorem State.failover_shell (s : State) (b : Booking) : (s.failover b).shell = s.shell := by
  unfold State.failover
  repeat' split
  all_goals simp
@[simp] theorem State.restartFailover_shell (s : State) (h : Nat) : (s.restartFailover h).shell = s.shell := by
  unfold State.restartFailover
  repeat' split
  all_goals simp
@[simp] theorem State.testFailover_shell (s : State) (h : Nat) : (s.testFailover h).shell = s.shell := by
  unfold State.testFailover
  repeat' split
  all_goals simp

end Sys2Proof.Machine
end

