-- ==== Sys2Proof/Laws/Request.lean ====
section
/-! SUPPORT. The two shapes of a command: what the end of a command (`settle`) leaves, sets and starts; what a request row answers
when its frame is taken; what an event row answers; what an event of the serial lines touches. -/

namespace Sys2Proof.Machine

/-! ## Lines -/

@[simp] theorem State.driveLines_core (s : State) : s.driveLines.core = s.core := rfl
@[simp] theorem State.driveLines_planner (s : State) : s.driveLines.planner = s.planner := rfl
@[simp] theorem State.driveLines_link (s : State) : s.driveLines.link = s.link := rfl
@[simp] theorem State.driveLines_pending (s : State) : s.driveLines.pending = s.pending := rfl
@[simp] theorem State.driveRts_core (s : State) : s.driveRts.core = s.core := rfl
@[simp] theorem State.driveRts_planner (s : State) : s.driveRts.planner = s.planner := rfl
@[simp] theorem State.driveRts_link (s : State) : s.driveRts.link = s.link := rfl
@[simp] theorem State.driveRts_pending (s : State) : s.driveRts.pending = s.pending := rfl
@[simp] theorem State.setLink_core (s : State) (x : LinkInterface) : (s.setLink x).core = s.core := rfl
@[simp] theorem State.setLines_core (s : State) (x : Lines) : (s.setLines x).core = s.core := rfl
@[simp] theorem State.setPlanner_core (s : State) (x : Planner) : (s.setPlanner x).core = s.core := rfl
@[simp] theorem State.setPending_core (s : State) (x : List Instr) : (s.setPending x).core = s.core := rfl

@[simp] theorem State.send_core (s : State) (r : Reply) : (s.send r).core = s.core := rfl
@[simp] theorem State.send_planner (s : State) (r : Reply) : (s.send r).planner = s.planner := rfl
@[simp] theorem State.send_lines (s : State) (r : Reply) : (s.send r).lines = s.lines := rfl
@[simp] theorem State.send_pending (s : State) (r : Reply) : (s.send r).pending = s.pending := rfl
@[simp] theorem State.send_link (s : State) (r : Reply) :
    (s.send r).link = { s.link with phase := .sending r, txBegun := s.lines.cts, txSent := 0 } := rfl

/-- The parts of the link that the assembler does not write. -/
def LinkInterface.still (l : LinkInterface) :
    Option Nat × List Frame × ServicePhase × Settings × LineSettings × LineSettings × Option LineSettings ×
      Option LineSettings × Bool × Nat :=
  (l.gapTimer, l.requests, l.phase, l.settings, l.line, l.lineBefore, l.pendingLine, l.rxLine, l.txBegun, l.txSent)

/-! ## The assembler's work -/

/-- Everything that draining the FIFO leaves as it is. -/
theorem State.drainN_keeps (n : Nat) (s : State) :
    (s.drainN n).core = s.core ∧ (s.drainN n).planner = s.planner ∧ (s.drainN n).pending = s.pending ∧
      (s.drainN n).link.still = s.link.still ∧ (s.drainN n).lines.inputs = s.lines.inputs := by
  induction n generalizing s with
  | zero => exact ⟨rfl, rfl, rfl, rfl, rfl⟩
  | succ n ih =>
    unfold State.drainN
    repeat' (first | split | dsimp only)
    all_goals first
      | exact ⟨rfl, rfl, rfl, rfl, rfl⟩
      | (refine ⟨?_, ?_, ?_, ?_, ?_⟩ <;> first
          | (rw [(ih _).1]; rfl)
          | (rw [(ih _).2.1]; rfl)
          | (rw [(ih _).2.2.1]; rfl)
          | (rw [(ih _).2.2.2.1]; rfl)
          | (rw [(ih _).2.2.2.2]; rfl))

/-- What draining the FIFO does to the link and to RTS rests on the link and RTS alone. -/
theorem State.drainN_congr (n : Nat) (s u : State) (hl : s.link = u.link) (hr : s.lines.rts = u.lines.rts) :
    (s.drainN n).link = (u.drainN n).link ∧ (s.drainN n).lines.rts = (u.drainN n).lines.rts := by
  induction n generalizing s u with
  | zero => exact ⟨hl, hr⟩
  | succ n ih =>
    simp only [State.drainN, hl]
    repeat' split
    all_goals first
      | exact ⟨hl, hr⟩
      | (apply ih <;> simp [State.popFifo, State.count, State.driveRts, State.setLink, State.setLines, hl, hr])

/-! ## The end of a command -/

theorem State.takeTriggers_core (s : State) : s.takeTriggers.core = s.core := by
  unfold State.takeTriggers
  repeat' split
  all_goals rfl

theorem State.takeTriggers_shell' (s : State) : s.takeTriggers.shell = s.shell := State.takeTriggers_shell s

theorem State.settle_core (s : State) : s.settle.core = s.core := by
  unfold State.settle State.drain
  rw [State.driveLines_core, (State.drainN_keeps _ _).1, State.takeTriggers_core]

theorem State.settle_planner (s : State) : s.settle.planner = s.takeTriggers.planner := by
  unfold State.settle State.drain
  rw [State.driveLines_planner, (State.drainN_keeps _ _).2.1]

theorem State.takeTriggers_outer (s : State) : s.takeTriggers.outer = s.outer :=
  State.outer_of_shell (State.takeTriggers_shell s)

@[simp] theorem State.takeTriggers_link (s : State) : s.takeTriggers.link = s.link := congrArg (·.1) s.takeTriggers_outer
@[simp] theorem State.takeTriggers_lines (s : State) : s.takeTriggers.lines = s.lines := congrArg (·.2.1) s.takeTriggers_outer
@[simp] theorem State.takeTriggers_pending (s : State) : s.takeTriggers.pending = s.pending :=
  congrArg (·.2.2) s.takeTriggers_outer

@[simp] theorem State.settle_pending (s : State) : s.settle.pending = s.pending := by
  unfold State.settle State.drain
  rw [State.driveLines_pending, (State.drainN_keeps _ _).2.2.1, State.takeTriggers_pending]

theorem State.settle_still (s : State) : s.settle.link.still = s.link.still := by
  unfold State.settle State.drain
  rw [State.driveLines_link, (State.drainN_keeps _ _).2.2.2.1, State.takeTriggers_link]

theorem State.settle_inputs (s : State) : s.settle.lines.inputs = s.lines.inputs := by
  have h : s.settle.lines.inputs = (s.takeTriggers.drain).lines.inputs := rfl
  rw [h]
  unfold State.drain
  rw [(State.drainN_keeps _ _).2.2.2.2, State.takeTriggers_lines]

@[simp] theorem State.settle_time (s : State) : s.settle.time = s.time := congrArg (·.1) s.settle_core
@[simp] theorem State.settle_catalogue (s : State) : s.settle.catalogue = s.catalogue := congrArg (·.2.1) s.settle_core
@[simp] theorem State.settle_guide (s : State) : s.settle.guide = s.guide := congrArg (·.2.2.1) s.settle_core
@[simp] theorem State.settle_links (s : State) : s.settle.links = s.links := congrArg (·.2.2.2.1) s.settle_core
@[simp] theorem State.settle_book (s : State) : s.settle.book = s.book := congrArg (·.2.2.2.2.1) s.settle_core
@[simp] theorem State.settle_orders (s : State) : s.settle.orders = s.orders := congrArg (·.2.2.2.2.2.1) s.settle_core
@[simp] theorem State.settle_monitor (s : State) : s.settle.monitor = s.monitor := congrArg (·.2.2.2.2.2.2.1) s.settle_core
@[simp] theorem State.settle_wake (s : State) : s.settle.wake = s.wake := congrArg (·.2.2.2.2.2.2.2.1) s.settle_core
@[simp] theorem State.settle_storage (s : State) : s.settle.storage = s.storage := congrArg (·.2.2.2.2.2.2.2.2.1) s.settle_core
@[simp] theorem State.settle_notices (s : State) : s.settle.notices = s.notices := congrArg (·.2.2.2.2.2.2.2.2.2) s.settle_core
@[simp] theorem State.settle_gapTimer (s : State) : s.settle.link.gapTimer = s.link.gapTimer := congrArg (·.1) s.settle_still
@[simp] theorem State.settle_requests (s : State) : s.settle.link.requests = s.link.requests := congrArg (·.2.1) s.settle_still
@[simp] theorem State.settle_phase (s : State) : s.settle.link.phase = s.link.phase := congrArg (·.2.2.1) s.settle_still
@[simp] theorem State.settle_settings (s : State) : s.settle.link.settings = s.link.settings :=
  congrArg (·.2.2.2.1) s.settle_still
@[simp] theorem State.settle_line (s : State) : s.settle.link.line = s.link.line := congrArg (·.2.2.2.2.1) s.settle_still
@[simp] theorem State.settle_lineBefore (s : State) : s.settle.link.lineBefore = s.link.lineBefore :=
  congrArg (·.2.2.2.2.2.1) s.settle_still
@[simp] theorem State.settle_pendingLine (s : State) : s.settle.link.pendingLine = s.link.pendingLine :=
  congrArg (·.2.2.2.2.2.2.1) s.settle_still
@[simp] theorem State.settle_rxLine (s : State) : s.settle.link.rxLine = s.link.rxLine :=
  congrArg (·.2.2.2.2.2.2.2.1) s.settle_still
@[simp] theorem State.settle_txBegun (s : State) : s.settle.link.txBegun = s.link.txBegun :=
  congrArg (·.2.2.2.2.2.2.2.2.1) s.settle_still
@[simp] theorem State.settle_txSent (s : State) : s.settle.link.txSent = s.link.txSent :=
  congrArg (·.2.2.2.2.2.2.2.2.2) s.settle_still
@[simp] theorem State.settle_resetn (s : State) : s.settle.lines.resetn = s.lines.resetn := congrArg (·.1) s.settle_inputs
@[simp] theorem State.settle_cts (s : State) : s.settle.lines.cts = s.lines.cts := congrArg (·.2.1) s.settle_inputs
@[simp] theorem State.settle_lockA (s : State) : s.settle.lines.lockA = s.lines.lockA := congrArg (·.2.2.1) s.settle_inputs
@[simp] theorem State.settle_lockB (s : State) : s.settle.lines.lockB = s.lines.lockB := congrArg (·.2.2.2.1) s.settle_inputs
@[simp] theorem State.settle_faultA (s : State) : s.settle.lines.faultA = s.lines.faultA :=
  congrArg (·.2.2.2.2.1) s.settle_inputs
@[simp] theorem State.settle_faultB (s : State) : s.settle.lines.faultB = s.lines.faultB :=
  congrArg (·.2.2.2.2.2.1) s.settle_inputs
@[simp] theorem State.settle_ahead (s : State) : s.settle.lines.ahead = s.lines.ahead :=
  congrArg (·.2.2.2.2.2.2) s.settle_inputs

/-- After every command the trigger is taken. -/
@[simp] theorem State.takeTriggers_triggered (s : State) : s.takeTriggers.planner.triggered = false := by
  unfold State.takeTriggers
  repeat' split
  all_goals simp_all [State.startPass]

/-- Without a trigger the planner is left as it is. -/
theorem State.takeTriggers_idle (s : State) (h : s.planner.triggered = false) : s.takeTriggers.planner = s.planner := by
  unfold State.takeTriggers
  simp [h]

/-- A trigger leaves a Running pass behind (R86). -/
theorem State.takeTriggers_running (s : State) (h : s.planner.triggered = true) :
    s.takeTriggers.planner.running.isSome = true := by
  unfold State.takeTriggers
  repeat' split
  all_goals simp_all [State.startPass]

/-- With an empty FIFO the end of a command leaves the link as it is. -/
theorem State.settle_link_of_empty {s : State} (h : s.link.fifo = []) : s.settle.link = s.link := by
  unfold State.settle State.drain
  rw [State.driveLines_link]
  have hl : s.takeTriggers.link.fifo.length = 0 := by simp [h]
  rw [hl]
  simp [State.drainN]

/-- While a request is Applying the assembler takes nothing, and the end of a command leaves the link as it is (R198). -/
theorem State.settle_link_of_applying {s : State} (h : s.link.phase = .applying) : s.settle.link = s.link := by
  unfold State.settle State.drain
  rw [State.driveLines_link]
  have hp : s.takeTriggers.link.phase.isApplying = true := by simp [h, ServicePhase.isApplying]
  cases s.takeTriggers.link.fifo.length with
  | zero => simp [State.drainN]
  | succ n =>
    unfold State.drainN
    rw [if_pos hp]
    simp

/-- While a request is Applying the end of a command leaves RTS as it is (R201). -/
theorem State.settle_rts_of_applying {s : State} (h : s.link.phase = .applying) : s.settle.lines.rts = s.lines.rts := by
  have h1 : s.settle.lines.rts = s.takeTriggers.drain.lines.rts := rfl
  rw [h1]
  unfold State.drain
  have hp : s.takeTriggers.link.phase.isApplying = true := by simp [h, ServicePhase.isApplying]
  cases s.takeTriggers.link.fifo.length with
  | zero => simp [State.drainN]
  | succ n =>
    unfold State.drainN
    rw [if_pos hp]
    simp

/-- After the end of a command the lines follow the state. -/
theorem State.settle_linesFollow (s : State) : s.settle.linesFollow := by
  intro _
  refine ⟨rfl, rfl, rfl, ?_⟩
  rw [State.settle_planner, State.takeTriggers_triggered]

/-! ## Requests -/

theorem State.takeRequest_of_takes {s : State} {f : Frame} (h : s.takes f) : s.takeRequest f = some (s.taken f) := by
  unfold State.takeRequest State.taken
  rcases h with ⟨_, _, h | ⟨h, hf⟩⟩
  · simp [h]
  · simp [h, hf]

@[simp] theorem State.taken_core (s : State) (f : Frame) : (s.taken f).core = s.core := by
  unfold State.taken
  split <;> rfl
@[simp] theorem State.taken_planner (s : State) (f : Frame) : (s.taken f).planner = s.planner := by
  unfold State.taken
  split <;> rfl
@[simp] theorem State.taken_pending (s : State) (f : Frame) : (s.taken f).pending = s.pending := by
  unfold State.taken
  split <;> rfl
theorem State.taken_inputs (s : State) (f : Frame) : (s.taken f).lines.inputs = s.lines.inputs := by
  unfold State.taken
  split <;> rfl
@[simp] theorem State.taken_settings (s : State) (f : Frame) : (s.taken f).link.settings = s.link.settings := by
  unfold State.taken
  split <;> rfl
@[simp] theorem State.taken_counters (s : State) (f : Frame) : (s.taken f).link.counters = s.link.counters := by
  unfold State.taken
  split <;> rfl
@[simp] theorem State.taken_line (s : State) (f : Frame) : (s.taken f).link.line = s.link.line := by
  unfold State.taken
  split <;> rfl
@[simp] theorem State.taken_pendingLine (s : State) (f : Frame) : (s.taken f).link.pendingLine = s.link.pendingLine := by
  unfold State.taken
  split <;> rfl
@[simp] theorem State.taken_time (s : State) (f : Frame) : (s.taken f).time = s.time := congrArg (·.1) (s.taken_core f)
@[simp] theorem State.taken_catalogue (s : State) (f : Frame) : (s.taken f).catalogue = s.catalogue :=
  congrArg (·.2.1) (s.taken_core f)
@[simp] theorem State.taken_guide (s : State) (f : Frame) : (s.taken f).guide = s.guide := congrArg (·.2.2.1) (s.taken_core f)
@[simp] theorem State.taken_links (s : State) (f : Frame) : (s.taken f).links = s.links := congrArg (·.2.2.2.1) (s.taken_core f)
@[simp] theorem State.taken_book (s : State) (f : Frame) : (s.taken f).book = s.book := congrArg (·.2.2.2.2.1) (s.taken_core f)
@[simp] theorem State.taken_orders (s : State) (f : Frame) : (s.taken f).orders = s.orders :=
  congrArg (·.2.2.2.2.2.1) (s.taken_core f)
@[simp] theorem State.taken_monitor (s : State) (f : Frame) : (s.taken f).monitor = s.monitor :=
  congrArg (·.2.2.2.2.2.2.1) (s.taken_core f)
@[simp] theorem State.taken_wake (s : State) (f : Frame) : (s.taken f).wake = s.wake :=
  congrArg (·.2.2.2.2.2.2.2.1) (s.taken_core f)
@[simp] theorem State.taken_storage (s : State) (f : Frame) : (s.taken f).storage = s.storage :=
  congrArg (·.2.2.2.2.2.2.2.2.1) (s.taken_core f)
@[simp] theorem State.taken_notices (s : State) (f : Frame) : (s.taken f).notices = s.notices :=
  congrArg (·.2.2.2.2.2.2.2.2.2) (s.taken_core f)
@[simp] theorem State.taken_resetn (s : State) (f : Frame) : (s.taken f).lines.resetn = s.lines.resetn :=
  congrArg (·.1) (s.taken_inputs f)
@[simp] theorem State.taken_faultA (s : State) (f : Frame) : (s.taken f).lines.faultA = s.lines.faultA :=
  congrArg (·.2.2.2.2.1) (s.taken_inputs f)
@[simp] theorem State.taken_faultB (s : State) (f : Frame) : (s.taken f).lines.faultB = s.lines.faultB :=
  congrArg (·.2.2.2.2.2.1) (s.taken_inputs f)
@[simp] theorem State.taken_lockA (s : State) (f : Frame) : (s.taken f).lines.lockA = s.lines.lockA :=
  congrArg (·.2.2.1) (s.taken_inputs f)
@[simp] theorem State.taken_lockB (s : State) (f : Frame) : (s.taken f).lines.lockB = s.lines.lockB :=
  congrArg (·.2.2.2.1) (s.taken_inputs f)
@[simp] theorem State.taken_now (s : State) (f : Frame) : (s.taken f).now = s.now := by simp [State.now]
@[simp] theorem State.taken_booking (s : State) (f : Frame) (h : Nat) : (s.taken f).booking? h = s.booking? h := by
  simp [State.booking?]

/-- A well-formed request row whose frame is taken answers the served state. -/
theorem request_of_takes {row : Instr} {f : Frame} {owner : Owner} {s : State} (hw : row.wellFormed = true) (h : s.takes f) :
    request row f owner s = .next ((s.taken f).serve f owner) := by
  unfold request
  simp [h.1, hw, State.takeRequest_of_takes h]

/-- Every request row answers a next state. -/
theorem request_next (row : Instr) (f : Frame) (owner : Owner) (s : State) : ∃ t, request row f owner s = .next t := by
  unfold request
  repeat' split
  all_goals exact ⟨_, rfl⟩

/-- What a request row answers: the state as it is, or a served one. -/
theorem request_cases {row : Instr} {f : Frame} {owner : Owner} {s t : State} (h : request row f owner s = .next t) :
    t = s ∨ ∃ s', s.takeRequest f = some s' ∧ t = s'.serve f owner := by
  unfold request at h
  repeat' split at h
  all_goals simp_all

theorem State.afterApply_core (s : State) (f : Frame) (plan : ReplyPlan) : (s.afterApply f plan).core = s.core := by
  unfold State.afterApply
  split <;> rfl

theorem State.serve_core (s : State) (f : Frame) (owner : Owner) : (s.serve f owner).core = (owner s).1.core := by
  unfold State.serve
  rw [State.settle_core, State.afterApply_core]

@[simp] theorem State.serve_time (s : State) (f : Frame) (owner : Owner) : (s.serve f owner).time = (owner s).1.time :=
  congrArg (·.1) (s.serve_core f owner)
@[simp] theorem State.serve_catalogue (s : State) (f : Frame) (owner : Owner) :
    (s.serve f owner).catalogue = (owner s).1.catalogue := congrArg (·.2.1) (s.serve_core f owner)
@[simp] theorem State.serve_guide (s : State) (f : Frame) (owner : Owner) : (s.serve f owner).guide = (owner s).1.guide :=
  congrArg (·.2.2.1) (s.serve_core f owner)
@[simp] theorem State.serve_links (s : State) (f : Frame) (owner : Owner) : (s.serve f owner).links = (owner s).1.links :=
  congrArg (·.2.2.2.1) (s.serve_core f owner)
@[simp] theorem State.serve_book (s : State) (f : Frame) (owner : Owner) : (s.serve f owner).book = (owner s).1.book :=
  congrArg (·.2.2.2.2.1) (s.serve_core f owner)
@[simp] theorem State.serve_orders (s : State) (f : Frame) (owner : Owner) : (s.serve f owner).orders = (owner s).1.orders :=
  congrArg (·.2.2.2.2.2.1) (s.serve_core f owner)
@[simp] theorem State.serve_monitor (s : State) (f : Frame) (owner : Owner) : (s.serve f owner).monitor = (owner s).1.monitor :=
  congrArg (·.2.2.2.2.2.2.1) (s.serve_core f owner)
@[simp] theorem State.serve_wake (s : State) (f : Frame) (owner : Owner) : (s.serve f owner).wake = (owner s).1.wake :=
  congrArg (·.2.2.2.2.2.2.2.1) (s.serve_core f owner)
@[simp] theorem State.serve_storage (s : State) (f : Frame) (owner : Owner) : (s.serve f owner).storage = (owner s).1.storage :=
  congrArg (·.2.2.2.2.2.2.2.2.1) (s.serve_core f owner)
@[simp] theorem State.serve_notices (s : State) (f : Frame) (owner : Owner) : (s.serve f owner).notices = (owner s).1.notices :=
  congrArg (·.2.2.2.2.2.2.2.2.2) (s.serve_core f owner)

@[simp] theorem State.afterApply_settings (s : State) (f : Frame) (plan : ReplyPlan) :
    (s.afterApply f plan).link.settings = s.link.settings := by
  unfold State.afterApply
  split <;> rfl

@[simp] theorem State.serve_settings (s : State) (f : Frame) (owner : Owner) :
    (s.serve f owner).link.settings = (owner s).1.link.settings := by
  unfold State.serve
  simp

@[simp] theorem State.afterApply_pending (s : State) (f : Frame) (plan : ReplyPlan) : (s.afterApply f plan).pending = s.pending := by
  unfold State.afterApply
  split <;> rfl

@[simp] theorem State.serve_pending (s : State) (f : Frame) (owner : Owner) : (s.serve f owner).pending = (owner s).1.pending := by
  unfold State.serve
  simp

/-- A request that gives no trigger is answered at once. -/
theorem State.serve_sends {s : State} {f : Frame} {owner : Owner} (h : (owner s).1.planner.triggered = false) :
    (s.serve f owner).sends ((owner s).2.build f (owner s).1) := by
  unfold State.sends State.serve
  rw [State.settle_phase]
  unfold State.afterApply
  simp [h]

/-- A prompt reply is sent at once (R122, R164). -/
theorem State.serve_prompts {s : State} {f : Frame} {owner : Owner} (h : (owner s).2.isPrompt = true) :
    (s.serve f owner).sends ((owner s).2.build f (owner s).1) := by
  unfold State.sends State.serve
  rw [State.settle_phase]
  unfold State.afterApply
  simp [h]

/-- A request that gives a trigger waits for a pass, which is Running (R87). -/
theorem State.serve_holds {s : State} {f : Frame} {owner : Owner} (h : (owner s).1.planner.triggered = true)
    (hp : (owner s).2.isPrompt = false) :
    (s.serve f owner).link.phase = .holding (if (owner s).1.planner.running.isSome then 2 else 1) (owner s).2 ∧
      (s.serve f owner).passComes := by
  unfold State.serve
  constructor
  · rw [State.settle_phase]
    unfold State.afterApply
    simp [h, hp]
  · unfold State.passComes
    rw [State.settle_planner]
    apply State.takeTriggers_running
    unfold State.afterApply
    simp [h, hp]

/-- After a served request the lines follow the state. -/
theorem State.serve_linesFollow (s : State) (f : Frame) (owner : Owner) : (s.serve f owner).linesFollow :=
  State.settle_linesFollow _

/-- The served state is the owner's, once the command has ended. -/
theorem State.serve_becomes (s : State) (f : Frame) (owner : Owner) : (s.serve f owner).becomes (owner s).1 := by
  refine ⟨State.serve_core s f owner, ?_, ?_, State.serve_pending s f owner, State.serve_linesFollow s f owner⟩
  · unfold State.serve LinkInterface.config
    simp only [State.settle_settings, State.settle_line, State.settle_lineBefore, State.settle_pendingLine]
    unfold State.afterApply
    split <;> rfl
  · unfold State.serve
    rw [State.settle_inputs]
    unfold State.afterApply
    split <;> rfl

/-- Being taken changes nothing behind the link. -/
theorem State.taken_becomes {t : State} {s : State} {f : Frame} (h : t.becomes (s.taken f)) : t.becomes s := by
  obtain ⟨h1, h2, h3, h4, h5⟩ := h
  refine ⟨h1.trans (s.taken_core f), h2.trans ?_, h3.trans (s.taken_inputs f), h4.trans (s.taken_pending f), h5⟩
  unfold State.taken
  split <;> rfl

/-- A command that ends without a trigger leaves the planner as it is. -/
theorem State.serve_planner {s : State} {f : Frame} {owner : Owner} (h : (owner s).1.planner.triggered = false) :
    (s.serve f owner).planner = (owner s).1.planner := by
  unfold State.serve
  rw [State.settle_planner]
  have hp : ∀ u : State, (u.afterApply f (owner s).2).planner = u.planner := by
    intro u
    unfold State.afterApply
    split <;> rfl
  rw [State.takeTriggers_idle _ (by rw [hp]; exact h), hp]

/-- A request that changes nothing is answered at once. -/
theorem request_still {row : Instr} {f : Frame} {owner : Owner} {s : State} {r : Result} {d : ReplyData}
    (hw : row.wellFormed = true) (h : s.takes f) (ho : ∀ u : State, u = s.taken f → owner u = (u, .done r d)) :
    ∃ t, request row f owner s = .next t ∧ t.replies f r d ∧ t.unchanged s := by
  refine ⟨_, request_of_takes hw h, ?_, ?_, ?_⟩
  · have := State.serve_sends (s := s.taken f) (f := f) (owner := owner) (by rw [ho _ rfl]; simpa using h.2.1)
    rw [ho _ rfl] at this
    exact this
  · have := State.serve_becomes (s.taken f) f owner
    rw [ho _ rfl] at this
    exact State.taken_becomes this
  · have := State.serve_planner (s := s.taken f) (f := f) (owner := owner) (by rw [ho _ rfl]; simpa using h.2.1)
    rw [this, ho _ rfl]
    simp

/-- A request whose owner asks for a pass waits for it, but for a prompt reply. -/
theorem request_waits {row : Instr} {f : Frame} {owner : Owner} {s : State} (hw : row.wellFormed = true) (h : s.takes f)
    (ho : (owner (s.taken f)).1.planner.triggered = true) (hp : (owner (s.taken f)).2.isPrompt = false) :
    ∃ t, request row f owner s = .next t ∧ t.awaits (owner (s.taken f)).2 ∧ t.becomes (owner (s.taken f)).1 :=
  ⟨_, request_of_takes hw h, ⟨⟨_, (State.serve_holds ho hp).1⟩, (State.serve_holds ho hp).2⟩, State.serve_becomes _ _ _⟩

/-- A request with a prompt reply is answered at once. -/
theorem request_prompts {row : Instr} {f : Frame} {owner : Owner} {s : State} (hw : row.wellFormed = true) (h : s.takes f)
    (hp : (owner (s.taken f)).2.isPrompt = true) :
    ∃ t, request row f owner s = .next t ∧ t.sends ((owner (s.taken f)).2.build f (owner (s.taken f)).1) ∧
      t.becomes (owner (s.taken f)).1 :=
  ⟨_, request_of_takes hw h, State.serve_prompts hp, State.serve_becomes _ _ _⟩

/-- A request whose owner asks for no pass is answered at once. -/
theorem request_sends {row : Instr} {f : Frame} {owner : Owner} {s : State} (hw : row.wellFormed = true) (h : s.takes f)
    (ho : (owner (s.taken f)).1.planner.triggered = false) :
    ∃ t, request row f owner s = .next t ∧ t.sends ((owner (s.taken f)).2.build f (owner (s.taken f)).1) ∧
      t.becomes (owner (s.taken f)).1 ∧ t.planner = (owner (s.taken f)).1.planner :=
  ⟨_, request_of_takes hw h, State.serve_sends ho, State.serve_becomes _ _ _, State.serve_planner ho⟩

/-- A request with a complete reply gives it, now or after a pass. -/
theorem request_answers {row : Instr} {f : Frame} {owner : Owner} {s : State} {r : Result} {d : ReplyData}
    (hw : row.wellFormed = true) (h : s.takes f) (hr : (owner (s.taken f)).2 = .done r d) :
    ∃ t, request row f owner s = .next t ∧ t.answers f r d ∧ t.becomes (owner (s.taken f)).1 := by
  by_cases ho : (owner (s.taken f)).1.planner.triggered = true
  · obtain ⟨t, h1, h2, h3⟩ := request_waits hw h ho (by rw [hr]; rfl)
    exact ⟨t, h1, Or.inr (hr ▸ h2), h3⟩
  · obtain ⟨t, h1, h2, h3, _⟩ := request_sends hw h (by simpa using ho)
    rw [hr] at h2
    exact ⟨t, h1, Or.inl h2, h3⟩

/-! ## Events -/

/-- An event row whose condition holds, out of reset. -/
theorem event_of_due {due : Bool} {act : State → State} {s : State} (hr : s.lines.resetn = true) (hd : due = true) :
    event due act s = .next (act s).settle := by
  unfold event
  simp [hr, hd]

/-- An event row whose condition holds: the settled effect. -/
theorem event_becomes {due : Bool} {act : State → State} {s : State} (hr : s.lines.resetn = true) (hd : due = true) :
    ∃ t, event due act s = .next t ∧ t.becomes (act s) ∧ t = (act s).settle := by
  refine ⟨(act s).settle, event_of_due hr hd, ?_, rfl⟩
  refine ⟨State.settle_core _, ?_, State.settle_inputs _, State.settle_pending _, State.settle_linesFollow _⟩
  unfold LinkInterface.config
  simp

/-- Every event row answers a next state. -/
theorem event_next (due : Bool) (act : State → State) (s : State) : ∃ t, event due act s = .next t := by
  unfold event
  split
  all_goals exact ⟨_, rfl⟩

/-- What an event row answers: the state as it is, or the settled effect. -/
theorem event_cases {due : Bool} {act : State → State} {s t : State} (h : event due act s = .next t) :
    t = s ∨ t = (act s).settle := by
  unfold event at h
  split at h
  all_goals simp_all

/-- Every line row answers a next state. -/
theorem lineRow_next (fresh : Bool) (level act : State → State) (s : State) : ∃ t, lineRow fresh level act s = .next t := by
  unfold lineRow
  repeat' split
  all_goals exact ⟨_, rfl⟩

/-! ## The serial lines before a crystal tick -/

/-- One event of the serial lines touches the reception of a byte, the sending of a byte and the level of CTS, nothing else. -/
theorem State.lineEvent_keeps (s : State) (e : LineEvent) :
    (s.lineEvent e).core = s.core ∧ (s.lineEvent e).planner = s.planner ∧ (s.lineEvent e).pending = s.pending ∧
      (s.lineEvent e).link.config = s.link.config ∧ (s.lineEvent e).link.phase = s.link.phase ∧
      (s.lineEvent e).link.fifo = s.link.fifo ∧ (s.lineEvent e).link.requests = s.link.requests ∧
      { (s.lineEvent e).lines with cts := s.lines.cts } = s.lines := by
  cases e <;> simp only [State.lineEvent, LinkInterface.startBit, LinkInterface.byteSent, LinkInterface.ctsRise]
  all_goals repeat' split
  all_goals exact ⟨rfl, rfl, rfl, rfl, rfl, rfl, rfl, rfl⟩

end Sys2Proof.Machine
end

