-- ==== Sys2Proof/Laws/Table.lean ====
section
/-! SUPPORT. The rules of the tables (`tablesHold`): the booking table stays in order with its handles in range (R41, R43), an order
list holds one order a booking (R115), the notice queue at most 48 notices and one BookingState a booking (R188). Every operation
keeps them. -/

namespace Sys2Proof.Machine

/-! ## A handle is always found (R43) -/

theorem length_le_of_nodup_subset {l m : List Nat} (hn : l.Nodup) (hs : ∀ x ∈ l, x ∈ m) : l.length ≤ m.length := by
  induction l generalizing m with
  | nil => simp
  | cons a l ih =>
    have ha : a ∈ m := hs a (by simp)
    have hl : ∀ x ∈ l, x ∈ m.erase a := by
      intro x hx
      have hne : x ≠ a := by
        intro h
        subst h
        exact (List.nodup_cons.mp hn).1 hx
      exact (List.mem_erase_of_ne hne).mpr (hs x (by simp [hx]))
    have := ih (List.nodup_cons.mp hn).2 hl
    have hlen := List.length_erase_of_mem ha
    have hpos : 0 < m.length := List.length_pos_of_mem ha
    simp only [List.length_cons]
    omega

/-- The handle k places on from h (R43). -/
def handleAfter (h k : Nat) : Nat := (h - 1 + k) % 65535 + 1

theorem handleAfter_range (h k : Nat) : 1 ≤ handleAfter h k ∧ handleAfter h k ≤ 65535 := by
  unfold handleAfter
  omega

theorem nextHandle_eq {h : Nat} (h1 : 1 ≤ h) (h2 : h ≤ 65535) : nextHandle h = handleAfter h 1 := by
  unfold nextHandle handleAfter
  split <;> omega

theorem handleAfter_zero {h : Nat} (h1 : 1 ≤ h) (h2 : h ≤ 65535) : handleAfter h 0 = h := by
  unfold handleAfter
  omega

theorem handleAfter_next {h : Nat} (h1 : 1 ≤ h) (h2 : h ≤ 65535) (k : Nat) :
    handleAfter (nextHandle h) k = handleAfter h (k + 1) := by
  unfold nextHandle handleAfter
  split <;> omega

theorem issueHandle_spec (used : List Nat) (n h : Nat) (h1 : 1 ≤ h) (h2 : h ≤ 65535) :
    ∃ j, j ≤ n ∧ issueHandle used h n = handleAfter h j ∧ (∀ i, i < j → handleAfter h i ∈ used) ∧
      (j < n → handleAfter h j ∉ used) := by
  induction n generalizing h with
  | zero => exact ⟨0, by omega, by simp [issueHandle, handleAfter_zero h1 h2], by omega, by omega⟩
  | succ n ih =>
    unfold issueHandle
    split
    · rename_i hu
      have hr : 1 ≤ nextHandle h ∧ nextHandle h ≤ 65535 := by
        rw [nextHandle_eq h1 h2]
        exact handleAfter_range h 1
      obtain ⟨j, hj, he, hall, hnot⟩ := ih (nextHandle h) hr.1 hr.2
      refine ⟨j + 1, by omega, by rw [he, handleAfter_next h1 h2], ?_, ?_⟩
      · intro i hi
        cases i with
        | zero =>
          rw [handleAfter_zero h1 h2]
          simpa using hu
        | succ i =>
          rw [← handleAfter_next h1 h2]
          exact hall i (by omega)
      · intro hlt
        rw [← handleAfter_next h1 h2]
        exact hnot (by omega)
    · rename_i hu
      refine ⟨0, by omega, by rw [handleAfter_zero h1 h2], by omega, ?_⟩
      intro _
      rw [handleAfter_zero h1 h2]
      simpa using hu

theorem handleAfter_injective {h i j : Nat} (hi : i < 65535) (hj : j < 65535) (he : handleAfter h i = handleAfter h j) :
    i = j := by
  unfold handleAfter at he
  omega

/-- The handle issued to a new record is in range and not in use (R43). -/
theorem issueHandle_fresh (used : List Nat) (h : Nat) (h1 : 1 ≤ h) (h2 : h ≤ 65535) (hl : used.length < 128) :
    (1 ≤ issueHandle used h 129 ∧ issueHandle used h 129 ≤ 65535) ∧ issueHandle used h 129 ∉ used := by
  obtain ⟨j, hj, he, hall, hnot⟩ := issueHandle_spec used 129 h h1 h2
  rw [he]
  refine ⟨handleAfter_range h j, ?_⟩
  apply hnot
  by_cases hc : j < 129
  · exact hc
  · exfalso
    have hn : ((List.range j).map (handleAfter h)).Nodup := by
      rw [List.nodup_iff_pairwise_ne, List.pairwise_map]
      refine List.Pairwise.imp_of_mem ?_ List.nodup_range
      intro a b ha hb hab hh
      exact hab (handleAfter_injective (by have := List.mem_range.mp ha; omega) (by have := List.mem_range.mp hb; omega) hh)
    have hs : ∀ x ∈ (List.range j).map (handleAfter h), x ∈ used := by
      intro x hx
      obtain ⟨i, hi, rfl⟩ := List.mem_map.mp hx
      exact hall i (List.mem_range.mp hi)
    have := length_le_of_nodup_subset hn hs
    simp at this
    omega

/-! ## The booking table -/

theorem map_handle_of_keeps {l : List Booking} {f : Booking → Booking} (hf : ∀ b ∈ l, (f b).handle = b.handle) :
    (l.map f).map (·.handle) = l.map (·.handle) := by
  rw [List.map_map]
  exact List.map_congr_left (fun b hb => hf b hb)

theorem BookingTable.ordered_map {t : BookingTable} (ht : t.ordered) (f : Booking → Booking)
    (hf : ∀ b ∈ t.records, (f b).handle = b.handle) : BookingTable.ordered ⟨t.records.map f, t.next⟩ := by
  refine ⟨?_, ?_, ?_, ht.2.2.2⟩
  · rw [map_handle_of_keeps hf]
    exact ht.1
  · simpa using ht.2.1
  · intro b hb
    obtain ⟨c, hc, rfl⟩ := List.mem_map.mp hb
    rw [hf c hc]
    exact ht.2.2.1 c hc

theorem BookingTable.ordered_filter {t : BookingTable} (ht : t.ordered) (p : Booking → Bool) :
    BookingTable.ordered ⟨t.records.filter p, t.next⟩ := by
  refine ⟨?_, ?_, ?_, ht.2.2.2⟩
  · exact List.Pairwise.sublist (List.Sublist.map _ List.filter_sublist) ht.1
  · exact Nat.le_trans (List.length_filter_le _ _) ht.2.1
  · intro b hb
    exact ht.2.2.1 b (List.mem_filter.mp hb).1

theorem mem_insertBy {α : Type} (before : α → α → Bool) (x y : α) (l : List α) : y ∈ insertBy before x l ↔ y = x ∨ y ∈ l := by
  induction l with
  | nil => simp [insertBy]
  | cons z zs ih =>
    unfold insertBy
    split
    · simp
    · simp [ih]
      constructor <;> intro h <;> rcases h with h | h | h <;> simp [h]

theorem length_insertBy {α : Type} (before : α → α → Bool) (x : α) (l : List α) : (insertBy before x l).length = l.length + 1 := by
  induction l with
  | nil => simp [insertBy]
  | cons z zs ih =>
    unfold insertBy
    split <;> simp [ih]

theorem insertBy_handle_pairwise {b : Booking} {l : List Booking} (hl : (l.map (·.handle)).Pairwise (· < ·))
    (hb : b.handle ∉ l.map (·.handle)) :
    ((insertBy (fun x y => decide (x.handle < y.handle)) b l).map (·.handle)).Pairwise (· < ·) := by
  induction l with
  | nil => simp [insertBy]
  | cons z zs ih =>
    simp only [List.map_cons, List.pairwise_cons, List.mem_cons, not_or] at hl hb
    unfold insertBy
    split
    · rename_i hlt
      have hlt : b.handle < z.handle := by simpa using hlt
      simp only [List.map_cons, List.pairwise_cons, List.mem_cons]
      refine ⟨?_, hl⟩
      rintro a (rfl | ha)
      · exact hlt
      · exact Nat.lt_trans hlt (hl.1 a ha)
    · rename_i hlt
      have hlt : ¬ b.handle < z.handle := by simpa using hlt
      simp only [List.map_cons, List.pairwise_cons]
      refine ⟨?_, ih hl.2 hb.2⟩
      intro a ha
      obtain ⟨c, hc, rfl⟩ := List.mem_map.mp ha
      rcases (mem_insertBy _ b c zs).mp hc with rfl | hc
      · omega
      · exact hl.1 _ (List.mem_map_of_mem hc)

/-- The record found has the handle asked for. -/
theorem State.booking_handle {s : State} {h : Nat} {b : Booking} (hb : s.booking? h = some b) : b.handle = h := by
  unfold State.booking? at hb
  simpa using List.find?_some hb

/-! ## The notice queue -/

theorem filterMap_stateOf_filter_sublist (p : Notice → Bool) (l : List Notice) :
    ((l.filter p).filterMap fun n => n.body.stateOf).Sublist (l.filterMap fun n => n.body.stateOf) :=
  List.Sublist.filterMap _ List.filter_sublist

theorem replaceNotice_stateOf {key : NoticeBody → Option Nat} {h : Nat} {n : Notice} {l : List Notice}
    (hk : ∀ q : Notice, key q.body = some h → n.body.stateOf = q.body.stateOf) :
    ((replaceNotice key h n l).filterMap fun q => q.body.stateOf) = l.filterMap fun q => q.body.stateOf := by
  unfold replaceNotice
  induction l with
  | nil => rfl
  | cons q l ih =>
    rw [List.map_cons, List.filterMap_cons, List.filterMap_cons, ih]
    by_cases hq : key q.body = some h
    · rw [if_pos (by simpa using hq), hk q hq]
    · rw [if_neg (by simpa using hq)]

theorem coalesced_bounded {n : Notice} {queue q' : List Notice} {lost : Bool} (hq : NoticeQueue.bounded ⟨queue, lost⟩)
    (hc : coalesced n queue = some q') : NoticeQueue.bounded ⟨q', lost⟩ := by
  unfold coalesced at hc
  have hrep : ∀ (key : NoticeBody → Option Nat) (h : Nat),
      (∀ q : Notice, key q.body = some h → n.body.stateOf = q.body.stateOf) →
      NoticeQueue.bounded ⟨replaceNotice key h n queue, lost⟩ := by
    intro key h hk
    refine ⟨?_, ?_⟩
    · have := hq.1
      simpa [replaceNotice] using this
    · show ((replaceNotice key h n queue).filterMap _).Nodup
      rw [replaceNotice_stateOf hk]
      exact hq.2
  have hrem : ∀ (key : NoticeBody → Option Nat) (h : Nat), NoticeQueue.bounded ⟨removeNotice key h queue, lost⟩ := by
    intro key h
    exact ⟨Nat.le_trans (List.length_filter_le _ _) hq.1, List.Pairwise.sublist (filterMap_stateOf_filter_sublist _ _) hq.2⟩
  split at hc
  · rename_i h r hb
    split at hc
    · cases hc
      apply hrep
      intro q hq
      rw [hb, hq]
      rfl
    · cases hc
  · rename_i h c hb
    split at hc
    · cases hc
      exact hrem _ _
    · split at hc
      · cases hc
        apply hrep
        intro q hq
        rw [hb]
        revert hq
        cases q.body <;> simp [NoticeBody.foundOf, NoticeBody.stateOf]
      · cases hc
  · rename_i h x a e hb
    split at hc
    · cases hc
      exact hrem _ _
    · split at hc
      · cases hc
        apply hrep
        intro q hq
        rw [hb]
        revert hq
        cases q.body <;> simp [NoticeBody.clearedOf, NoticeBody.stateOf]
      · cases hc
  · cases hc

theorem coalesced_none_state {n : Notice} {queue : List Notice} {h : Nat} (hc : coalesced n queue = none)
    (hs : n.body.stateOf = some h) : h ∉ queue.filterMap fun q => q.body.stateOf := by
  unfold coalesced at hc
  split at hc
  · rename_i k r hb
    split at hc
    · cases hc
    · rename_i hno
      rw [hb] at hs
      simp only [NoticeBody.stateOf, Option.some.injEq] at hs
      subst hs
      intro hm
      apply hno
      obtain ⟨q, hq, hqs⟩ := List.mem_filterMap.mp hm
      unfold hasNotice
      rw [List.any_eq_true]
      exact ⟨q, hq, by simpa using hqs⟩
  all_goals (rename_i hb; first | (rw [hb] at hs; simp [NoticeBody.stateOf] at hs; done) | skip)
  all_goals
    revert hs
    cases hbody : n.body <;> simp_all [NoticeBody.stateOf]

/-- Offering a notice keeps the bounds of the queue (R186 to R188). -/
theorem offerTo_bounded {mask : BitVec 7} {n : Notice} {q : NoticeQueue} (hq : q.bounded) : (offerTo mask n q).bounded := by
  unfold offerTo
  split
  · split
    · rename_i q' hc
      exact coalesced_bounded (queue := q.queue) (lost := q.lost) hq hc
    · rename_i hc
      split
      · rename_i hl
        unfold Config.maxNotices at hl
        refine ⟨?_, ?_⟩
        · simp
          omega
        · simp only [List.filterMap_append]
          cases hs : n.body.stateOf with
          | none => simpa [hs] using hq.2
          | some h =>
            have hnot := coalesced_none_state hc hs
            simp only [List.filterMap_cons, hs, List.filterMap_nil]
            rw [List.nodup_append]
            refine ⟨hq.2, by simp, ?_⟩
            intro a ha b hb
            simp only [List.mem_singleton] at hb
            subst hb
            intro hab
            subst hab
            exact hnot ha
      · exact hq
  · exact hq

/-! ## The order list -/

theorem OrderUnit.single_filter {o : OrderUnit} (ho : o.single) (p : Order → Bool) (k : Option Nat) :
    OrderUnit.single ⟨o.orders.filter p, k⟩ :=
  List.Pairwise.sublist (List.Sublist.map _ List.filter_sublist) ho

theorem OrderUnit.single_issue {o : OrderUnit} (ho : o.single) {x : Order} {h : Nat} (hx : x.handle = h) (k : Option Nat) :
    OrderUnit.single ⟨(o.orders.filter fun y => y.handle != h) ++ [x], k⟩ := by
  unfold OrderUnit.single
  simp only [List.map_append, List.map_cons, List.map_nil]
  rw [List.nodup_append]
  refine ⟨List.Pairwise.sublist (List.Sublist.map _ List.filter_sublist) ho, by simp, ?_⟩
  intro a ha b hb hab
  simp only [List.mem_singleton] at hb
  subst hb
  obtain ⟨y, hy, hya⟩ := List.mem_map.mp ha
  have := (List.mem_filter.mp hy).2
  simp_all

theorem OrderUnit.single_map {o : OrderUnit} (ho : o.single) (f : Order → Order) (hf : ∀ x, (f x).handle = x.handle) (k : Option Nat) :
    OrderUnit.single ⟨o.orders.map f, k⟩ := by
  unfold OrderUnit.single
  have : (o.orders.map f).map (·.handle) = o.orders.map (·.handle) := by
    rw [List.map_map]
    exact List.map_congr_left (fun x _ => hf x)
  simp only [this]
  exact ho

theorem deliverFirst_handles (limit n : Nat) (l : List Order) : (deliverFirst limit n l).map (·.handle) = l.map (·.handle) := by
  induction l generalizing n with
  | nil => cases n <;> simp [deliverFirst]
  | cons o l ih =>
    cases n with
    | zero => simp [deliverFirst]
    | succ n =>
      unfold deliverFirst
      split <;> simp [ih, Order.deliver]

end Sys2Proof.Machine
end

