-- ==== Sys2Proof/Laws/TableOps.lean ====
section
/-! SUPPORT. Every shared operation keeps the rules of the tables (`tablesHold`). -/

namespace Sys2Proof.Machine

@[simp] theorem State.setTime_tables {s : State} (ht : s.tablesHold) (x : TimeBase) : (s.setTime x).tablesHold := ht
@[simp] theorem State.setCatalogue_tables {s : State} (ht : s.tablesHold) (x : Catalogue) : (s.setCatalogue x).tablesHold := ht
@[simp] theorem State.setGuide_tables {s : State} (ht : s.tablesHold) (x : List Event) : (s.setGuide x).tablesHold := ht
@[simp] theorem State.setLinks_tables {s : State} (ht : s.tablesHold) (x : List Link) : (s.setLinks x).tablesHold := ht
@[simp] theorem State.setPlanner_tables {s : State} (ht : s.tablesHold) (x : Planner) : (s.setPlanner x).tablesHold := ht
@[simp] theorem State.setMonitor_tables {s : State} (ht : s.tablesHold) (x : TunerMonitor) : (s.setMonitor x).tablesHold := ht
@[simp] theorem State.setWake_tables {s : State} (ht : s.tablesHold) (x : WakeUnit) : (s.setWake x).tablesHold := ht
@[simp] theorem State.setStorage_tables {s : State} (ht : s.tablesHold) (x : Estimator) : (s.setStorage x).tablesHold := ht
@[simp] theorem State.setLink_tables {s : State} (ht : s.tablesHold) (x : LinkInterface) : (s.setLink x).tablesHold := ht
@[simp] theorem State.setLines_tables {s : State} (ht : s.tablesHold) (x : Lines) : (s.setLines x).tablesHold := ht
@[simp] theorem State.setPending_tables {s : State} (ht : s.tablesHold) (x : List Instr) : (s.setPending x).tablesHold := ht

@[simp] theorem State.setBook_map_tables {s : State} (ht : s.tablesHold) (f : Booking → Booking) (hf : ∀ b, (f b).handle = b.handle) :
    (s.setBook { s.book with records := s.book.records.map f }).tablesHold :=
  ⟨BookingTable.ordered_map ht.1 f (fun b _ => hf b), ht.2⟩

@[simp] theorem State.setBook_filter_tables {s : State} (ht : s.tablesHold) (p : Booking → Bool) :
    (s.setBook { s.book with records := s.book.records.filter p }).tablesHold :=
  ⟨BookingTable.ordered_filter ht.1 p, ht.2⟩

@[simp] theorem State.offer_tables {s : State} (ht : s.tablesHold) (body : NoticeBody) : (s.offer body).tablesHold :=
  ⟨ht.1, ht.2.1, offerTo_bounded ht.2.2⟩

@[simp] theorem State.setNotices_filter_tables {s : State} (ht : s.tablesHold) (p : Notice → Bool) :
    (s.setNotices { s.notices with queue := s.notices.queue.filter p }).tablesHold :=
  ⟨ht.1, ht.2.1, Nat.le_trans (List.length_filter_le _ _) ht.2.2.1,
    List.Pairwise.sublist (filterMap_stateOf_filter_sublist _ _) ht.2.2.2⟩

/-- One record changed, its handle kept. -/
theorem State.modBooking_tables' {s : State} (ht : s.tablesHold) (h : Nat) (f : Booking → Booking)
    (hf : ∀ b ∈ s.book.records, b.handle = h → (f b).handle = h) : (s.modBooking h f).tablesHold := by
  refine ⟨BookingTable.ordered_map ht.1 _ ?_, ht.2⟩
  intro b hb
  by_cases hh : b.handle = h
  · simp [hh, hf b hb hh]
  · simp [hh]

@[simp] theorem State.modBooking_tables {s : State} (ht : s.tablesHold) (h : Nat) (f : Booking → Booking)
    (hf : ∀ b, (f b).handle = b.handle) : (s.modBooking h f).tablesHold :=
  State.modBooking_tables' ht h f (fun b _ hb => by rw [hf, hb])

theorem State.modBooking_const_tables {s : State} (ht : s.tablesHold) (h : Nat) (x : Booking) (hx : x.handle = h) :
    (s.modBooking h fun _ => x).tablesHold :=
  State.modBooking_tables' ht h _ (fun _ _ _ => hx)

@[simp] theorem ite_tables {c : Prop} [Decidable c] {s t : State} (hs : s.tablesHold) (ht : t.tablesHold) :
    (if c then s else t).tablesHold := by
  split
  · exact hs
  · exact ht

@[simp] theorem ite_fst_tables {α : Type} {c : Prop} [Decidable c] {p q : State × α} (hp : p.1.tablesHold) (hq : q.1.tablesHold) :
    (if c then p else q).1.tablesHold := by
  split
  · exact hp
  · exact hq

theorem foldl_tables {α : Type} (f : State → α → State) (hf : ∀ s a, s.tablesHold → (f s a).tablesHold) (l : List α) {s : State}
    (ht : s.tablesHold) : (l.foldl f s).tablesHold := by
  induction l generalizing s with
  | nil => exact ht
  | cons a l ih => exact ih (hf s a ht)

theorem foldl_matched_tables {α : Type} (f : Matched → α → Matched) (hf : ∀ m a, m.state.tablesHold → (f m a).state.tablesHold)
    (l : List α) {m : Matched} (ht : m.state.tablesHold) : (l.foldl f m).state.tablesHold := by
  induction l generalizing m with
  | nil => exact ht
  | cons a l ih => exact ih (hf m a ht)

theorem State.eachBooking_tables {rule : State → Nat → State} (hr : ∀ s h, s.tablesHold → (rule s h).tablesHold) {s : State}
    (ht : s.tablesHold) : (s.eachBooking rule).tablesHold := foldl_tables _ hr _ ht

/-! ## Records whose handle stays -/

@[simp] theorem Booking.choose_handle (b : Booking) (guide : List Event) (a : Alternative) : (b.choose guide a).handle = b.handle := rfl
@[simp] theorem Booking.write_handle (b : Booking) (guide : List Event) (r : BookingResult) : (b.write guide r).handle = b.handle := by
  unfold Booking.write
  dsimp only
  repeat' split
  all_goals simp [Booking.choose]
@[simp] theorem Booking.finished_handle (b : Booking) (v : Verdict) (u : Bool) (now : Nat) : (b.finished v u now).handle = b.handle := rfl
@[simp] theorem Booking.disarm_handle (b : Booking) (now : Nat) : (b.disarm now).handle = b.handle := by
  unfold Booking.disarm
  split <;> rfl
@[simp] theorem Booking.follow_handle (b : Booking) (old new : Event) (now : Nat) : (b.follow old new now).handle = b.handle := by
  unfold Booking.follow
  dsimp only
  repeat' split
  all_goals simp
@[simp] theorem Booking.promote_handle (b : Booking) (guide : List Event) (a : Alternative) (rest : List Alternative) (now : Nat) : (b.promote guide a rest now).handle = b.handle := by
  unfold Booking.promote
  simp
@[simp] theorem Booking.orphaned_handle (b : Booking) : (b.orphaned).handle = b.handle := rfl
@[simp] theorem Booking.retimeAlternative_handle (b : Booking) (new : Event) (now : Nat) : (b.retimeAlternative new now).handle = b.handle := rfl
@[simp] theorem Booking.amended_handle (b : Booking) (o : Options) (capable : Bool) : (b.amended o capable).handle = b.handle := rfl
@[simp] theorem Booking.amendPlanned_handle (b : Booking) (o : Options) (capable : Bool) (now : Nat) : (b.amendPlanned o capable now).handle = b.handle := by
  unfold Booking.amendPlanned
  dsimp only
  repeat' split
  all_goals rfl
@[simp] theorem Booking.stopped_handle (b : Booking) (cause : StopCause) (truncated late : Bool) (now : Nat) : (b.stopped cause truncated late now).handle = b.handle := rfl
@[simp] theorem Booking.beginStopping_handle (b : Booking) (now : Nat) : (b.beginStopping now).handle = b.handle := rfl
@[simp] theorem Booking.begin_handle (b : Booking) (first : Bool) (now : Nat) : (b.begin first now).handle = b.handle := rfl
@[simp] theorem Booking.takeStatus_handle (b : Booking) (status : RunStatus) (now : Nat) : (b.takeStatus status now).handle = b.handle := rfl
@[simp] theorem Booking.mark_handle (b : Booking) (runHold : Nat) : (b.mark runHold).handle = b.handle := by
  unfold Booking.mark
  dsimp only
  split <;> rfl

theorem ite_handle {c : Prop} [Decidable c] (x y : Booking) : (if c then x else y).handle = if c then x.handle else y.handle := by
  split <;> rfl

/-! ## Operations -/

@[simp] theorem State.modItems_tables {s : State} (ht : s.tablesHold) (h : Nat) (f : OrderItems → OrderItems) : (s.modItems h f).tablesHold := by
  unfold State.modItems
  repeat' split
  all_goals first
    | exact ht
    | simp (maxDischargeDepth := 40) [ht]
@[simp] theorem State.trigger_tables {s : State} (ht : s.tablesHold)  : (s.trigger).tablesHold := by
  unfold State.trigger
  repeat' split
  all_goals first
    | exact ht
    | simp (maxDischargeDepth := 40) [ht]
@[simp] theorem State.markChanged_tables {s : State} (ht : s.tablesHold) (h : Nat) : (s.markChanged h).tablesHold := by
  unfold State.markChanged
  repeat' split
  all_goals first
    | exact ht
    | simp (maxDischargeDepth := 40) [ht]
@[simp] theorem State.bookingChanged_tables {s : State} (ht : s.tablesHold) (h : Nat) : (s.bookingChanged h).tablesHold := by
  unfold State.bookingChanged
  repeat' split
  all_goals first
    | exact ht
    | simp (maxDischargeDepth := 40) [ht]
@[simp] theorem State.leavesPlan_tables {s : State} (ht : s.tablesHold) (h : Nat) : (s.leavesPlan h).tablesHold := by
  unfold State.leavesPlan
  repeat' split
  all_goals first
    | exact ht
    | simp (maxDischargeDepth := 40) [ht]
@[simp] theorem State.opensInPass_tables {s : State} (ht : s.tablesHold)  : (s.opensInPass).tablesHold := by
  unfold State.opensInPass
  repeat' split
  all_goals first
    | exact ht
    | simp (maxDischargeDepth := 40) [ht]
@[simp] theorem State.liveClaimChanged_tables {s : State} (ht : s.tablesHold)  : (s.liveClaimChanged).tablesHold := by
  unfold State.liveClaimChanged
  repeat' split
  all_goals first
    | exact ht
    | simp (maxDischargeDepth := 40) [ht]
@[simp] theorem State.noteState_tables {s : State} (ht : s.tablesHold) (h : Nat) : (s.noteState h).tablesHold := by
  unfold State.noteState
  repeat' split
  all_goals first
    | exact ht
    | simp (maxDischargeDepth := 40) [ht]
@[simp] theorem State.evaluateWake_tables {s : State} (ht : s.tablesHold)  : (s.evaluateWake).tablesHold := by
  unfold State.evaluateWake
  repeat' split
  all_goals first
    | exact ht
    | simp (maxDischargeDepth := 40) [ht]
@[simp] theorem State.afterRemoval_tables {s : State} (ht : s.tablesHold) (old : Option Order) : (s.afterRemoval old).tablesHold := by
  unfold State.afterRemoval
  repeat' split
  all_goals first
    | exact ht
    | simp (maxDischargeDepth := 40) [ht]
theorem State.setOrderList_filter_tables {s : State} (ht : s.tablesHold) (p : Order → Bool) :
    (s.setOrderList (s.orders.orders.filter p)).tablesHold := ⟨ht.1, OrderUnit.single_filter ht.2.1 p _, ht.2.2⟩

theorem State.setOrderList_map_tables {s : State} (ht : s.tablesHold) (f : Order → Order) (hf : ∀ x, (f x).handle = x.handle) :
    (s.setOrderList (s.orders.orders.map f)).tablesHold := ⟨ht.1, OrderUnit.single_map ht.2.1 f hf _, ht.2.2⟩

theorem State.setOrderList_issue_tables {s : State} (ht : s.tablesHold) {x : Order} {h : Nat} (hx : x.handle = h) :
    (s.setOrderList ((s.orders.orders.filter fun y => y.handle != h) ++ [x])).tablesHold :=
  ⟨ht.1, OrderUnit.single_issue ht.2.1 hx _, ht.2.2⟩

@[simp] theorem State.issue_tables {s : State} (ht : s.tablesHold) (kind : OrderKind) (h : Nat) (tuner : Option TunerId) (attempt : Nat) (onRunning : Bool) : (s.issue kind h tuner attempt onRunning).tablesHold := by
  unfold State.issue
  split
  · exact ht
  · dsimp only
    split
    · apply State.afterRemoval_tables
      exact ⟨ht.1, OrderUnit.single_issue ht.2.1 (h := h) (by rfl) _, ht.2.2⟩
    · apply State.evaluateWake_tables
      exact ⟨ht.1, OrderUnit.single_issue ht.2.1 (h := h) (by rfl) _, ht.2.2⟩
@[simp] theorem State.removeOrder_tables {s : State} (ht : s.tablesHold) (h : Nat) : (s.removeOrder h).tablesHold := State.afterRemoval_tables (State.setOrderList_filter_tables ht _) _
@[simp] theorem State.stop_tables {s : State} (ht : s.tablesHold) (h : Nat) (cause : StopCause) (truncated : Bool) : (s.stop h cause truncated).tablesHold := by
  have hm := fun {u : State} (hu : u.tablesHold) =>
    State.modBooking_tables hu h (fun b => b.stopped cause truncated (s.holdsDelivered h .move) s.now) (fun _ => rfl)
  unfold State.stop
  dsimp only
  split
  · exact State.noteState_tables (State.issue_tables (hm (by simp [ht])) _ _ _ _ _) _
  · exact State.noteState_tables (State.issue_tables (hm ht) _ _ _ _ _) _
@[simp] theorem State.takeFromAlternatives_tables {s : State} (ht : s.tablesHold) (ref : EventRef) : (s.takeFromAlternatives ref).tablesHold := by
  unfold State.takeFromAlternatives
  refine foldl_tables _ (fun s a ht => ?_) _ ht
  simp (maxDischargeDepth := 40) [ht]
/-- A record created has a handle of its own, in its place (R43). -/
theorem State.create_tables {s t : State} (ht : s.tablesHold) {make : Nat → Booking} (hm : ∀ h, (make h).handle = h) {h : Nat}
    (hc : s.create make = some (h, t)) : t.tablesHold := by
  unfold State.create at hc
  split at hc
  · rename_i hl
    simp only [Option.some.injEq, Prod.mk.injEq] at hc
    rw [← hc.2]
    refine State.trigger_tables ⟨?_, ht.2⟩
    obtain ⟨hp, _, hr, hn⟩ := ht.1
    have hl : s.book.records.length < 128 := hl
    have hf := issueHandle_fresh s.handles s.book.next hn.1 hn.2 (by simpa [State.handles] using hl)
    refine ⟨?_, ?_, ?_, ?_⟩
    · apply insertBy_handle_pairwise hp
      rw [hm]
      exact hf.2
    · simp only [State.setBook_book, length_insertBy]
      omega
    · intro b hb
      rcases (mem_insertBy _ _ _ _).mp hb with rfl | hb
      · rw [hm]
        exact hf.1
      · exact hr b hb
    · show 1 ≤ nextHandle _ ∧ nextHandle _ ≤ 65535
      rw [nextHandle_eq hf.1.1 hf.1.2]
      exact handleAfter_range _ 1
  · simp at hc

@[simp] theorem State.modLink_tables {s : State} (ht : s.tablesHold) (index : Nat) (f : Link → Link) : (s.modLink index f).tablesHold := by
  unfold State.modLink
  repeat' split
  all_goals first
    | exact ht
    | simp (maxDischargeDepth := 40) [ht]
@[simp] theorem State.starve_tables {s : State} (ht : s.tablesHold) (index : Nat) : (s.starve index).tablesHold := by
  unfold State.starve
  repeat' split
  all_goals first
    | exact ht
    | simp (maxDischargeDepth := 40) [ht]
@[simp] theorem State.settleStarved_tables {s : State} (ht : s.tablesHold) (index : Nat) (refused : Bool) : (s.settleStarved index refused).tablesHold := by
  unfold State.settleStarved
  repeat' split
  all_goals first
    | exact ht
    | simp (maxDischargeDepth := 40) [ht]
@[simp] theorem State.createOnEvent_tables {s : State} (ht : s.tablesHold) (l : Link) (e : Event) : ((s.createOnEvent l e).state).tablesHold := by
  unfold State.createOnEvent
  repeat' split
  all_goals first
    | exact ht
    | (simp (maxDischargeDepth := 40) [ht]; done)
    | (rename_i hc
       have ht' := State.create_tables ht (fun _ => rfl) hc
       simp (maxDischargeDepth := 40) [ht'])
@[simp] theorem State.addAlternative_tables {s : State} (ht : s.tablesHold) (b : Booking) (e : Event) : (s.addAlternative b e).tablesHold := by
  unfold State.addAlternative
  repeat' split
  all_goals first
    | exact ht
    | simp (maxDischargeDepth := 40) [ht]
@[simp] theorem State.switchAiring_tables {s : State} (ht : s.tablesHold) (b : Booking) (e : Event) : (s.switchAiring b e).tablesHold := by
  unfold State.switchAiring
  repeat' split
  all_goals first
    | exact ht
    | simp (maxDischargeDepth := 40) [ht]
@[simp] theorem State.matchEpisode_tables {s : State} (ht : s.tablesHold) (l : Link) (e : Event) (key : Nat) (history : List Nat) : ((s.matchEpisode l e key history).state).tablesHold := by
  unfold State.matchEpisode
  repeat' split
  all_goals first
    | exact ht
    | simp (maxDischargeDepth := 40) [ht]
@[simp] theorem State.matchOne_tables {s : State} (ht : s.tablesHold) (index : Nat) (e : Event) : ((s.matchOne index e).state).tablesHold := by
  unfold State.matchOne
  repeat' split
  all_goals first
    | exact ht
    | simp (maxDischargeDepth := 40) [ht]
@[simp] theorem State.matchAll_tables {s : State} (ht : s.tablesHold) (index : Nat) (events : List Event) : ((s.matchAll index events).state).tablesHold := by
  unfold State.matchAll
  exact foldl_matched_tables _ (fun _ _ ht => by simp [ht]) _ ht
@[simp] theorem State.fullMatch_tables {s : State} (ht : s.tablesHold) (index : Nat) : ((s.fullMatch index).state).tablesHold := by
  unfold State.fullMatch
  repeat' split
  all_goals first
    | exact ht
    | simp (maxDischargeDepth := 40) [ht]
@[simp] theorem State.modOccurrences_tables {s : State} (ht : s.tablesHold) (index : Nat) (f : List Occurrence → List Occurrence) : (s.modOccurrences index f).tablesHold := by
  unfold State.modOccurrences
  repeat' split
  all_goals first
    | exact ht
    | simp (maxDischargeDepth := 40) [ht]
@[simp] theorem State.bookDay_tables {s : State} (ht : s.tablesHold) (l : Link) (service : Nat) (weekdays : BitVec 7) (minute duration : Nat) (day : Int) : ((s.bookDay l service weekdays minute duration day).state).tablesHold := by
  unfold State.bookDay
  repeat' split
  all_goals first
    | exact ht
    | (simp (maxDischargeDepth := 40) [ht]; done)
    | (rename_i hc
       have ht' := State.create_tables ht (fun _ => rfl) hc
       simp (maxDischargeDepth := 40) [ht'])
@[simp] theorem State.retimeEntry_tables {s : State} (ht : s.tablesHold) (l : Link) (minute duration : Nat) (o : Occurrence) : (s.retimeEntry l minute duration o).tablesHold := by
  unfold State.retimeEntry
  repeat' split
  all_goals first
    | exact ht
    | simp (maxDischargeDepth := 40) [ht]
@[simp] theorem State.instantiate_tables {s : State} (ht : s.tablesHold) (index : Nat) (retime : Bool) : ((s.instantiate index retime).state).tablesHold := by
  unfold State.instantiate
  repeat' split
  all_goals first
    | exact ht
    | (dsimp only
       refine State.settleStarved_tables (foldl_matched_tables _ (fun _ _ ht => by simp [ht]) _ ?_) _ _
       first
         | exact foldl_tables _ (fun _ _ ht => by simp [ht]) _ (by simp [ht])
         | simp [ht])
@[simp] theorem State.instantiateAll_tables {s : State} (ht : s.tablesHold) (retime : Bool) : (s.instantiateAll retime).tablesHold := by
  unfold State.instantiateAll
  refine foldl_tables _ (fun s a ht => ?_) _ ht
  simp (maxDischargeDepth := 40) [ht]
@[simp] theorem State.retry_tables {s : State} (ht : s.tablesHold) (index : Nat) : (s.retry index).tablesHold := by
  unfold State.retry
  repeat' split
  all_goals first
    | exact ht
    | simp (maxDischargeDepth := 40) [ht]
@[simp] theorem State.retryStarved_tables {s : State} (ht : s.tablesHold)  : (s.retryStarved).tablesHold := by
  unfold State.retryStarved
  refine foldl_tables _ (fun s a ht => ?_) _ ht
  simp (maxDischargeDepth := 40) [ht]
@[simp] theorem State.matchBatch_tables {s : State} (ht : s.tablesHold) (events : List Event) : (s.matchBatch events).tablesHold := by
  unfold State.matchBatch
  exact foldl_tables _ (fun _ _ ht => by simp [ht]) _
    (foldl_tables _ (fun _ _ ht => foldl_tables _ (fun _ _ ht => by simp [ht]) _ ht) _ ht)
@[simp] theorem State.keepHistory_tables {s : State} (ht : s.tablesHold) (b : Booking) (v : Verdict) : (s.keepHistory b v).tablesHold := by
  unfold State.keepHistory
  repeat' split
  all_goals first
    | exact ht
    | simp (maxDischargeDepth := 40) [ht]
@[simp] theorem State.setTuner_tables {s : State} (ht : s.tablesHold) (x : TunerId) (t : Tuner) : (s.setTuner x t).tablesHold := by
  unfold State.setTuner
  repeat' split
  all_goals first
    | exact ht
    | simp (maxDischargeDepth := 40) [ht]
@[simp] theorem State.beginGap_tables {s : State} (ht : s.tablesHold) (h : Nat) : (s.beginGap h).tablesHold := by
  unfold State.beginGap
  repeat' split
  all_goals first
    | exact ht
    | simp (maxDischargeDepth := 40) [ht]
@[simp] theorem State.endGap_tables {s : State} (ht : s.tablesHold) (h : Nat) : (s.endGap h).tablesHold := by
  unfold State.endGap
  repeat' split
  all_goals first
    | exact ht
    | simp (maxDischargeDepth := 40) [ht]
@[simp] theorem State.endGapOfTuner_tables {s : State} (ht : s.tablesHold) (h : Nat) : (s.endGapOfTuner h).tablesHold := by
  unfold State.endGapOfTuner
  repeat' split
  all_goals first
    | exact ht
    | simp (maxDischargeDepth := 40) [ht]
@[simp] theorem State.gapsBegin_tables {s : State} (ht : s.tablesHold) (x : TunerId) : (s.gapsBegin x).tablesHold := by
  unfold State.gapsBegin
  refine foldl_tables _ (fun s a ht => ?_) _ ht
  simp (maxDischargeDepth := 40) [ht]
@[simp] theorem State.gapsEnd_tables {s : State} (ht : s.tablesHold) (x : TunerId) : (s.gapsEnd x).tablesHold := by
  unfold State.gapsEnd
  refine foldl_tables _ (fun s a ht => ?_) _ ht
  simp (maxDischargeDepth := 40) [ht]
@[simp] theorem State.changeTuner_tables {s : State} (ht : s.tablesHold) (x : TunerId) (new : Tuner) (cause : ChangeCause) : (s.changeTuner x new cause).tablesHold := by
  unfold State.changeTuner
  repeat' split
  all_goals first
    | exact ht
    | simp (maxDischargeDepth := 40) [ht]
@[simp] theorem State.comeIntoUse_tables {s : State} (ht : s.tablesHold) (x : TunerId) : (s.comeIntoUse x).tablesHold := by
  unfold State.comeIntoUse
  repeat' split
  all_goals first
    | exact ht
    | simp (maxDischargeDepth := 40) [ht]
@[simp] theorem State.goOutOfUse_tables {s : State} (ht : s.tablesHold) (x : TunerId) : (s.goOutOfUse x).tablesHold := by
  unfold State.goOutOfUse
  repeat' split
  all_goals first
    | exact ht
    | simp (maxDischargeDepth := 40) [ht]
@[simp] theorem State.evaluateUse_tables {s : State} (ht : s.tablesHold) (x : TunerId) : (s.evaluateUse x).tablesHold := by
  unfold State.evaluateUse
  repeat' split
  all_goals first
    | exact ht
    | simp (maxDischargeDepth := 40) [ht]
@[simp] theorem State.evaluateTuners_tables {s : State} (ht : s.tablesHold)  : (s.evaluateTuners).tablesHold := by
  unfold State.evaluateTuners
  repeat' split
  all_goals first
    | exact ht
    | simp (maxDischargeDepth := 40) [ht]
@[simp] theorem State.arrive_tables {s : State} (ht : s.tablesHold) (x : TunerId) (mux : Nat) : (s.arrive x mux).tablesHold := by
  unfold State.arrive
  repeat' split
  all_goals first
    | exact ht
    | simp (maxDischargeDepth := 40) [ht]
@[simp] theorem State.bookingArrives_tables {s : State} (ht : s.tablesHold) (h : Nat) : (s.bookingArrives h).tablesHold := by
  unfold State.bookingArrives
  repeat' split
  all_goals first
    | exact ht
    | simp (maxDischargeDepth := 40) [ht]
@[simp] theorem State.setLatch_tables {s : State} (ht : s.tablesHold) (x : TunerId) : (s.setLatch x).tablesHold := by
  unfold State.setLatch
  repeat' split
  all_goals first
    | exact ht
    | simp (maxDischargeDepth := 40) [ht]
@[simp] theorem State.faultRises_tables {s : State} (ht : s.tablesHold) (x : TunerId) : (s.faultRises x).tablesHold := by
  unfold State.faultRises
  repeat' split
  all_goals first
    | exact ht
    | simp (maxDischargeDepth := 40) [ht]
@[simp] theorem State.leaveAbandon_tables {s : State} (ht : s.tablesHold) (h : Nat) : (s.leaveAbandon h).tablesHold := by
  unfold State.leaveAbandon
  repeat' split
  all_goals first
    | exact ht
    | simp (maxDischargeDepth := 40) [ht]
@[simp] theorem State.finishCore_tables {s : State} (ht : s.tablesHold) (h : Nat) (v : Verdict) (unconfirmed : Bool) : (s.finishCore h v unconfirmed).tablesHold := by
  unfold State.finishCore
  split
  · exact ht
  · rename_i b hb
    dsimp only
    have hm := State.modBooking_const_tables ht h (b.finished v unconfirmed s.now) (by simpa using State.booking_handle hb)
    simp (maxDischargeDepth := 40) [hm]
@[simp] theorem State.finish_tables {s : State} (ht : s.tablesHold) (h : Nat) (v : Verdict) (unconfirmed : Bool) : (s.finish h v unconfirmed).tablesHold := by
  unfold State.finish
  repeat' split
  all_goals first
    | exact ht
    | simp (maxDischargeDepth := 40) [ht]
@[simp] theorem State.finishByOutcome_tables {s : State} (ht : s.tablesHold) (h : Nat) (reason : Reason) (unconfirmed : Bool) : (s.finishByOutcome h reason unconfirmed).tablesHold := by
  unfold State.finishByOutcome
  repeat' split
  all_goals first
    | exact ht
    | simp (maxDischargeDepth := 40) [ht]
@[simp] theorem State.removeRecords_tables {s : State} (ht : s.tablesHold) (old : Booking → Bool) : (s.removeRecords old).tablesHold := by
  unfold State.removeRecords
  repeat' split
  all_goals first
    | exact ht
    | simp (maxDischargeDepth := 40) [ht]
@[simp] theorem State.enterDue_tables {s : State} (ht : s.tablesHold) (h : Nat) (onRunning resumed : Bool) : (s.enterDue h onRunning resumed).tablesHold := by
  unfold State.enterDue
  repeat' split
  all_goals first
    | exact ht
    | simp (maxDischargeDepth := 40) [ht]
@[simp] theorem State.openBooking_tables {s : State} (ht : s.tablesHold) (h : Nat) (resumed : Bool) : (s.openBooking h resumed).tablesHold := by
  unfold State.openBooking
  repeat' split
  all_goals first
    | exact ht
    | simp (maxDischargeDepth := 40) [ht]
@[simp] theorem State.testOpening_tables {s : State} (ht : s.tablesHold) (h : Nat) : (s.testOpening h).tablesHold := by
  unfold State.testOpening
  repeat' split
  all_goals first
    | exact ht
    | simp (maxDischargeDepth := 40) [ht]
@[simp] theorem State.backToPending_tables {s : State} (ht : s.tablesHold) (h : Nat) : (s.backToPending h).tablesHold := by
  unfold State.backToPending
  repeat' split
  all_goals first
    | exact ht
    | simp (maxDischargeDepth := 40) [ht]
@[simp] theorem State.endRule_tables {s : State} (ht : s.tablesHold) (h : Nat) : (s.endRule h).tablesHold := by
  unfold State.endRule
  repeat' split
  all_goals first
    | exact ht
    | simp (maxDischargeDepth := 40) [ht]
@[simp] theorem State.endRuleUnlessOpen_tables {s : State} (ht : s.tablesHold) (h : Nat) : (s.endRuleUnlessOpen h).tablesHold := by
  unfold State.endRuleUnlessOpen
  repeat' split
  all_goals first
    | exact ht
    | simp (maxDischargeDepth := 40) [ht]
@[simp] theorem State.notRunningStops_tables {s : State} (ht : s.tablesHold) (h : Nat) : (s.notRunningStops h).tablesHold := by
  unfold State.notRunningStops
  repeat' split
  all_goals first
    | exact ht
    | simp (maxDischargeDepth := 40) [ht]
@[simp] theorem State.takeEffect_tables {s : State} (ht : s.tablesHold) (b : Booking) (status : RunStatus) : (s.takeEffect b status).tablesHold := by
  unfold State.takeEffect
  repeat' split
  all_goals first
    | exact ht
    | simp (maxDischargeDepth := 40) [ht]
@[simp] theorem State.completeHold_tables {s : State} (ht : s.tablesHold) (h : Nat) : (s.completeHold h).tablesHold := by
  unfold State.completeHold
  repeat' split
  all_goals first
    | exact ht
    | simp (maxDischargeDepth := 40) [ht]
@[simp] theorem State.slackRule_tables {s : State} (ht : s.tablesHold) (h : Nat) : (s.slackRule h).tablesHold := by
  unfold State.slackRule
  repeat' split
  all_goals first
    | exact ht
    | simp (maxDischargeDepth := 40) [ht]
@[simp] theorem State.judgeSpace_tables {s : State} (ht : s.tablesHold)  : (s.judgeSpace).tablesHold := by
  unfold State.judgeSpace
  repeat' split
  all_goals first
    | exact ht
    | simp (maxDischargeDepth := 40) [ht]
@[simp] theorem State.evaluateStorage_tables {s : State} (ht : s.tablesHold)  : (s.evaluateStorage).tablesHold := by
  unfold State.evaluateStorage
  repeat' split
  all_goals first
    | exact ht
    | simp (maxDischargeDepth := 40) [ht]
@[simp] theorem State.startPass_tables {s : State} (ht : s.tablesHold)  : (s.startPass).tablesHold := by
  unfold State.startPass
  repeat' split
  all_goals first
    | exact ht
    | simp (maxDischargeDepth := 40) [ht]
@[simp] theorem State.takeTriggers_tables {s : State} (ht : s.tablesHold)  : (s.takeTriggers).tablesHold := by
  unfold State.takeTriggers
  repeat' split
  all_goals first
    | exact ht
    | simp (maxDischargeDepth := 40) [ht]
@[simp] theorem State.writeResult_tables {s : State} (ht : s.tablesHold) (r : BookingResult) : (s.writeResult r).tablesHold := by
  unfold State.writeResult
  repeat' split
  all_goals first
    | exact ht
    | simp (maxDischargeDepth := 40) [ht]
@[simp] theorem State.writeClaim_tables {s : State} (ht : s.tablesHold) (r : ClaimResult) : (s.writeClaim r).tablesHold := by
  unfold State.writeClaim
  repeat' split
  all_goals first
    | exact ht
    | simp (maxDischargeDepth := 40) [ht]
@[simp] theorem State.compareWritten_tables {s : State} (ht : s.tablesHold) (h : Nat) (chosen : Bool) : (s.compareWritten h chosen).tablesHold := by
  unfold State.compareWritten
  repeat' split
  all_goals first
    | exact ht
    | simp (maxDischargeDepth := 40) [ht]
@[simp] theorem State.applyClaim_tables {s : State} (ht : s.tablesHold) (r : ClaimResult) : (s.applyClaim r).tablesHold := by
  unfold State.applyClaim
  repeat' split
  all_goals first
    | exact ht
    | simp (maxDischargeDepth := 40) [ht]
theorem State.setOrders_hold_tables {s : State} (ht : s.tablesHold) (k : Option Nat) :
    (s.setOrders { s.orders with stepHold := k }).tablesHold := ht

@[simp] theorem State.countStepHold_tables {s : State} (ht : s.tablesHold)  : (s.countStepHold).tablesHold := by
  unfold State.countStepHold
  split <;> exact ht
@[simp] theorem State.openAtPassEnd_tables {s : State} (ht : s.tablesHold) (written : List BookingResult) : (s.openAtPassEnd written).tablesHold := foldl_tables _ (fun _ _ ht => by simp [ht]) _ (State.countStepHold_tables ht)
@[simp] theorem State.handLive_tables {s : State} (ht : s.tablesHold) (l : LivePlacement) : (s.handLive l).tablesHold := by
  unfold State.handLive
  split
  · exact ht
  · dsimp only
    repeat' split
    all_goals simp (maxDischargeDepth := 40) [ht]
@[simp] theorem State.handLiveResult_tables {s : State} (ht : s.tablesHold) (p : Pass) (live : Option LivePlacement) : (s.handLiveResult p live).tablesHold := by
  unfold State.handLiveResult
  repeat' split
  all_goals first
    | exact ht
    | simp (maxDischargeDepth := 40) [ht]
@[simp] theorem State.releaseReply_tables {s : State} (ht : s.tablesHold)  : (s.releaseReply).tablesHold := by
  unfold State.releaseReply
  repeat' split
  all_goals first
    | exact ht
    | simp (maxDischargeDepth := 40) [ht]
@[simp] theorem State.closePass_tables {s : State} (ht : s.tablesHold) (p : Pass) : (s.closePass p).tablesHold := by
  unfold State.closePass
  repeat' split
  all_goals first
    | exact ht
    | simp (maxDischargeDepth := 40) [ht]
@[simp] theorem State.writePass_tables {s : State} (ht : s.tablesHold) (p : Pass) (r : PassResult) : (s.writePass p r).tablesHold := by
  unfold State.writePass
  refine foldl_tables _ (fun _ _ ht => by simp [ht]) _ (State.setPlanner_tables ?_ _)
  exact foldl_tables _ (fun _ _ ht => by simp [ht]) _ (foldl_tables _ (fun _ _ ht => by simp [ht]) _ ht)
@[simp] theorem State.endPass_tables {s : State} (ht : s.tablesHold) (p : Pass) : (s.endPass p).tablesHold := by
  unfold State.endPass
  refine State.closePass_tables (State.releaseReply_tables (State.evaluateStorage_tables (State.evaluateWake_tables
    (State.handLiveResult_tables (State.openAtPassEnd_tables ?_ _) _ _)))) _
  exact foldl_tables _ (fun _ _ ht => by simp [ht]) _ (State.writePass_tables ht _ _)
@[simp] theorem State.bookingStep_tables {s : State} (ht : s.tablesHold)  : (s.bookingStep).tablesHold := by
  unfold State.bookingStep
  refine State.eachBooking_tables (fun s h ht => ?_) ht
  repeat' split
  all_goals first
    | exact ht
    | simp (maxDischargeDepth := 40) [ht]
@[simp] theorem State.stepEnds_tables {s : State} (ht : s.tablesHold)  : (s.stepEnds).tablesHold := by
  unfold State.stepEnds
  refine State.eachBooking_tables (fun s h ht => ?_) ht
  repeat' split
  all_goals first
    | exact ht
    | simp (maxDischargeDepth := 40) [ht]
@[simp] theorem State.stepSlack_tables {s : State} (ht : s.tablesHold)  : (s.stepSlack).tablesHold := by
  unfold State.stepSlack
  refine State.eachBooking_tables (fun s h ht => ?_) ht
  repeat' split
  all_goals first
    | exact ht
    | simp (maxDischargeDepth := 40) [ht]
@[simp] theorem State.stepArmed_tables {s : State} (ht : s.tablesHold)  : (s.stepArmed).tablesHold := by
  unfold State.stepArmed
  refine State.eachBooking_tables (fun s h ht => ?_) ht
  repeat' split
  all_goals first
    | exact ht
    | simp (maxDischargeDepth := 40) [ht]
@[simp] theorem State.stepDue_tables {s : State} (ht : s.tablesHold)  : (s.stepDue).tablesHold := by
  unfold State.stepDue
  refine State.eachBooking_tables (fun s h ht => ?_) ht
  repeat' split
  all_goals first
    | exact ht
    | simp (maxDischargeDepth := 40) [ht]
@[simp] theorem State.setStepHold_tables {s : State} (ht : s.tablesHold)  : (s.setStepHold).tablesHold := ht
@[simp] theorem State.orderStep_tables {s : State} (ht : s.tablesHold) (old : Nat) : (s.orderStep old).tablesHold := by
  unfold State.orderStep
  repeat' split
  all_goals first
    | exact ht
    | simp (maxDischargeDepth := 40) [ht]
@[simp] theorem State.forgetReached_tables {s : State} (ht : s.tablesHold)  : (s.forgetReached).tablesHold := by
  unfold State.forgetReached
  repeat' split
  all_goals first
    | exact ht
    | simp (maxDischargeDepth := 40) [ht]
@[simp] theorem State.setZone_tables {s : State} (ht : s.tablesHold) (offset : Int) (cause : ZoneCause) : (s.setZone offset cause).tablesHold := by
  unfold State.setZone
  repeat' split
  all_goals first
    | exact ht
    | simp (maxDischargeDepth := 40) [ht]
@[simp] theorem State.takeNextChange_tables {s : State} (ht : s.tablesHold)  : (s.takeNextChange).tablesHold := by
  unfold State.takeNextChange
  repeat' split
  all_goals first
    | exact ht
    | simp (maxDischargeDepth := 40) [ht]
@[simp] theorem State.stepClock_tables {s : State} (ht : s.tablesHold) (b : Nat) : (s.stepClock b).tablesHold := by
  unfold State.stepClock
  dsimp only
  repeat' split
  all_goals simp (maxDischargeDepth := 40) [ht]
@[simp] theorem State.markSecond_tables {s : State} (ht : s.tablesHold)  : (s.markSecond).tablesHold := by
  unfold State.markSecond
  dsimp only
  have h1 := State.setBook_map_tables ht (fun b => if b.unfinished then b.mark s.settings.runHold else b)
    (fun b => by split <;> simp)
  have h2 := State.setOrderList_map_tables h1 (fun o => { o with elapsed := countUp maxTimeout o.elapsed }) (fun _ => rfl)
  exact State.setWake_tables (State.setMonitor_tables h2 _) _
@[simp] theorem State.endSecond_tables {s : State} (ht : s.tablesHold)  : (s.endSecond).tablesHold := by
  unfold State.endSecond
  repeat' split
  all_goals first
    | exact ht
    | simp (maxDischargeDepth := 40) [ht]
@[simp] theorem State.countGap_tables {s : State} (ht : s.tablesHold) (ticks : Nat) : (s.countGap ticks).tablesHold := by
  unfold State.countGap
  repeat' split
  all_goals first
    | exact ht
    | simp (maxDischargeDepth := 40) [ht]
@[simp] theorem State.crystal_tables {s : State} (ht : s.tablesHold)  : (s.crystal).tablesHold := by
  unfold State.crystal
  dsimp only
  repeat' split
  all_goals first
    | exact ht
    | simp (maxDischargeDepth := 40) [ht]
@[simp] theorem State.guideChange_tables {s : State} (ht : s.tablesHold) (h : Nat) (f : Booking → Booking) (hf : ∀ b, (f b).handle = b.handle) : (s.guideChange h f).tablesHold := by
  unfold State.guideChange
  simp (maxDischargeDepth := 40) [ht, hf]
@[simp] theorem State.follow_tables {s : State} (ht : s.tablesHold) (b : Booking) (old new : Event) : (s.follow b old new).tablesHold := by
  unfold State.follow
  dsimp only
  split
  · exact State.finish_tables (State.modBooking_tables ht _ _ (fun _ => by simp)) _ _ _
  · exact State.guideChange_tables ht _ _ (fun _ => by simp)
@[simp] theorem State.mainRemoved_tables {s : State} (ht : s.tablesHold) (b : Booking) : (s.mainRemoved b).tablesHold := by
  unfold State.mainRemoved
  repeat' split
  all_goals first
    | exact ht
    | simp (maxDischargeDepth := 40) [ht]
    | exact State.guideChange_tables ht _ _ (fun _ => by simp)
@[simp] theorem State.losesEvent_tables {s : State} (ht : s.tablesHold) (ref : EventRef) (h : Nat) :
    (s.losesEvent ref h).tablesHold := by
  unfold State.losesEvent
  repeat' split
  all_goals first
    | exact ht
    | simp (maxDischargeDepth := 40) [ht]
@[simp] theorem State.eventRemoved_tables {s : State} (ht : s.tablesHold) (ref : EventRef) : (s.eventRemoved ref).tablesHold :=
  State.eachBooking_tables (fun _ _ ht => State.losesEvent_tables ht _ _) ht
@[simp] theorem State.takesUpdate_tables {s : State} (ht : s.tablesHold) (old new : Event) (h : Nat) :
    (s.takesUpdate old new h).tablesHold := by
  unfold State.takesUpdate
  dsimp only
  repeat' split
  all_goals first
    | exact ht
    | exact State.follow_tables ht _ _ _
    | exact State.guideChange_tables ht _ _ (fun _ => rfl)
@[simp] theorem State.eventUpdated_tables {s : State} (ht : s.tablesHold) (old new : Event) : (s.eventUpdated old new).tablesHold :=
  State.eachBooking_tables (fun _ _ ht => State.takesUpdate_tables ht _ _ _) ht
@[simp] theorem State.expire_tables {s : State} (ht : s.tablesHold)  : (s.expire).tablesHold := by
  unfold State.expire
  repeat' split
  all_goals first
    | exact ht
    | simp (maxDischargeDepth := 40) [ht]
@[simp] theorem State.applyBatch_tables {s : State} (ht : s.tablesHold) (b : Batch) : ((s.applyBatch b).1).tablesHold := by
  unfold State.applyBatch
  dsimp only
  refine State.setGuide_tables ?_ _
  split <;> simp (maxDischargeDepth := 40) [ht]
@[simp] theorem State.bookBatch_tables {s : State} (ht : s.tablesHold) (e : BatchEffect) : (s.bookBatch e).tablesHold := foldl_tables _ (fun _ _ ht => by simp [ht]) _ (foldl_tables _ (fun _ _ ht => by simp [ht]) _ ht)
@[simp] theorem State.guideBatch_tables {s : State} (ht : s.tablesHold) (b : Batch) : ((s.guideBatch b).1).tablesHold := by
  unfold State.guideBatch
  repeat' split
  all_goals first
    | exact ht
    | simp (maxDischargeDepth := 40) [ht]
@[simp] theorem State.dropEvents_tables {s : State} (ht : s.tablesHold) (gone : List Event) : (s.dropEvents gone).tablesHold := foldl_tables _ (fun _ _ ht => by simp [ht]) _ (State.setGuide_tables ht _)
@[simp] theorem State.restartNotices_tables {s : State} (ht : s.tablesHold)  : (s.restartNotices).tablesHold := ⟨ht.1, ht.2.1, by simp [State.restartNotices], by simp [State.restartNotices]⟩
@[simp] theorem State.restartTuners_tables {s : State} (ht : s.tablesHold)  : (s.restartTuners).tablesHold := by
  unfold State.restartTuners
  repeat' split
  all_goals first
    | exact ht
    | simp (maxDischargeDepth := 40) [ht]
@[simp] theorem State.restartWake_tables {s : State} (ht : s.tablesHold)  : (s.restartWake).tablesHold := by
  unfold State.restartWake
  repeat' split
  all_goals first
    | exact ht
    | simp (maxDischargeDepth := 40) [ht]
@[simp] theorem State.restartOrders_tables {s : State} (ht : s.tablesHold)  : (s.restartOrders).tablesHold := by
  unfold State.restartOrders
  dsimp only
  exact ⟨BookingTable.ordered_map ht.1 _ (fun _ _ => rfl), by simp [State.setOrderList, OrderUnit.single], ht.2.2⟩
@[simp] theorem State.restartStopping_tables {s : State} (ht : s.tablesHold) (h : Nat) : (s.restartStopping h).tablesHold := by
  unfold State.restartStopping
  repeat' split
  all_goals first
    | exact ht
    | simp (maxDischargeDepth := 40) [ht]
@[simp] theorem State.resumeBooking_tables {s : State} (ht : s.tablesHold) (h : Nat) : (s.resumeBooking h).tablesHold := by
  unfold State.resumeBooking
  repeat' split
  all_goals first
    | exact ht
    | simp (maxDischargeDepth := 40) [ht]
@[simp] theorem State.keepAtRestart_tables {s : State} (ht : s.tablesHold) (h : Nat) : (s.keepAtRestart h).tablesHold := by
  unfold State.keepAtRestart
  repeat' split
  all_goals first
    | exact ht
    | simp (maxDischargeDepth := 40) [ht]
@[simp] theorem State.restartBookings_tables {s : State} (ht : s.tablesHold) (stopping resumed kept : List Nat) : (s.restartBookings stopping resumed kept).tablesHold := foldl_tables _ (fun _ _ ht => by simp [ht]) _ (foldl_tables _ (fun _ _ ht => by simp [ht]) _
    (foldl_tables _ (fun _ _ ht => by simp [ht]) _ (foldl_tables _ (fun _ _ ht => by simp [ht]) _ ht)))
@[simp] theorem State.restart_tables {s : State} (ht : s.tablesHold)  : (s.restart.1).tablesHold := by
  unfold State.restart
  repeat' split
  all_goals first
    | exact ht
    | simp (maxDischargeDepth := 40) [ht]
@[simp] theorem State.timeReport_tables {s : State} (ht : s.tablesHold) (b : Nat) : ((s.timeReport b).1).tablesHold := by
  unfold State.timeReport
  repeat' split
  all_goals first
    | exact ht
    | simp (maxDischargeDepth := 40) [ht]
@[simp] theorem State.zoneReport_tables {s : State} (ht : s.tablesHold) (z : ZoneFields) : ((s.zoneReport z).1).tablesHold := by
  unfold State.zoneReport
  dsimp only
  repeat' split
  all_goals first
    | exact ht
    | simp (maxDischargeDepth := 40) [ht]
@[simp] theorem State.startDay_tables {s : State} (ht : s.tablesHold)  : (s.startDay).tablesHold := by
  unfold State.startDay
  repeat' split
  all_goals first
    | exact ht
    | simp (maxDischargeDepth := 40) [ht]
@[simp] theorem State.storeSetting_tables {s : State} (ht : s.tablesHold) (item : Config.Item) (n : Nat) : (s.storeSetting item n).tablesHold := by
  unfold State.storeSetting
  repeat' split
  all_goals first
    | exact ht
    | simp (maxDischargeDepth := 40) [ht]
@[simp] theorem State.feedModeChanged_tables {s : State} (ht : s.tablesHold)  : (s.feedModeChanged).tablesHold := by
  unfold State.feedModeChanged
  repeat' split
  all_goals first
    | exact ht
    | simp (maxDischargeDepth := 40) [ht]
@[simp] theorem State.purgeAged_tables {s : State} (ht : s.tablesHold)  : (s.purgeAged).tablesHold := by
  unfold State.purgeAged
  repeat' split
  all_goals first
    | exact ht
    | simp (maxDischargeDepth := 40) [ht]
@[simp] theorem State.slackChanged_tables {s : State} (ht : s.tablesHold)  : (s.slackChanged).tablesHold := State.eachBooking_tables (fun _ _ ht => by simp [ht]) ht
@[simp] theorem State.runHoldRule_tables {s : State} (ht : s.tablesHold) (h : Nat) : (s.runHoldRule h).tablesHold := by
  unfold State.runHoldRule
  repeat' split
  all_goals first
    | exact ht
    | simp (maxDischargeDepth := 40) [ht]
@[simp] theorem State.runHoldChanged_tables {s : State} (ht : s.tablesHold)  : (s.runHoldChanged).tablesHold :=
  State.eachBooking_tables (fun _ _ ht => State.runHoldRule_tables ht _) ht
@[simp] theorem State.losesSignal_tables {s : State} (ht : s.tablesHold) (x : TunerId) : (s.losesSignal x).tablesHold := by
  unfold State.losesSignal
  simp (maxDischargeDepth := 40) [ht]
@[simp] theorem State.completeLoss_tables {s : State} (ht : s.tablesHold) (x : TunerId) : (s.completeLoss x).tablesHold := by
  unfold State.completeLoss
  repeat' split
  all_goals first
    | exact ht
    | simp (maxDischargeDepth := 40) [ht]
@[simp] theorem State.lossHoldChanged_tables {s : State} (ht : s.tablesHold)  : (s.lossHoldChanged).tablesHold := by
  unfold State.lossHoldChanged
  repeat' split
  all_goals first
    | exact ht
    | simp (maxDischargeDepth := 40) [ht]
@[simp] theorem State.wakeModeChanged_tables {s : State} (ht : s.tablesHold)  : (s.wakeModeChanged).tablesHold := by
  unfold State.wakeModeChanged
  repeat' split
  all_goals first
    | exact ht
    | simp (maxDischargeDepth := 40) [ht]
@[simp] theorem State.wakeFails_tables {s : State} (ht : s.tablesHold) (attempt : Nat) : (s.wakeFails attempt).tablesHold := by
  unfold State.wakeFails
  repeat' split
  all_goals first
    | exact ht
    | simp (maxDischargeDepth := 40) [ht]
@[simp] theorem State.attemptCompletes_tables {s : State} (ht : s.tablesHold)  : (s.attemptCompletes).tablesHold := by
  unfold State.attemptCompletes
  repeat' split
  all_goals first
    | exact ht
    | simp (maxDischargeDepth := 40) [ht]
@[simp] theorem State.wakeTimeoutChanged_tables {s : State} (ht : s.tablesHold)  : (s.wakeTimeoutChanged).tablesHold := by
  unfold State.wakeTimeoutChanged
  repeat' split
  all_goals first
    | exact ht
    | simp (maxDischargeDepth := 40) [ht]
@[simp] theorem State.spaceAlarmChanged_tables {s : State} (ht : s.tablesHold)  : (s.spaceAlarmChanged).tablesHold := by
  unfold State.spaceAlarmChanged
  repeat' split
  all_goals first
    | exact ht
    | simp (maxDischargeDepth := 40) [ht]
@[simp] theorem State.noticeMaskChanged_tables {s : State} (ht : s.tablesHold)  : (s.noticeMaskChanged).tablesHold := by
  unfold State.noticeMaskChanged
  repeat' split
  all_goals first
    | exact ht
    | simp (maxDischargeDepth := 40) [ht]
@[simp] theorem State.holdLine_tables {s : State} (ht : s.tablesHold)  : (s.holdLine).tablesHold := by
  unfold State.holdLine
  repeat' split
  all_goals first
    | exact ht
    | simp (maxDischargeDepth := 40) [ht]
@[simp] theorem State.driveRts_tables {s : State} (ht : s.tablesHold)  : (s.driveRts).tablesHold := by
  unfold State.driveRts
  repeat' split
  all_goals first
    | exact ht
    | simp (maxDischargeDepth := 40) [ht]
@[simp] theorem State.muxLoad_tables {s : State} (ht : s.tablesHold) (id quadrant : Nat) : ((s.muxLoad id quadrant).1).tablesHold := by
  unfold State.muxLoad
  repeat' split
  all_goals first
    | exact ht
    | simp (maxDischargeDepth := 40) [ht, State.setMuxes]
@[simp] theorem State.serviceLoad_tables {s : State} (ht : s.tablesHold) (f : ServiceFields) : ((s.serviceLoad f).1).tablesHold := by
  unfold State.serviceLoad
  dsimp only
  repeat' split
  all_goals first
    | exact ht
    | simp (maxDischargeDepth := 40) [ht, State.setServices]
@[simp] theorem State.muxDrop_tables {s : State} (ht : s.tablesHold) (index : Nat) : ((s.muxDrop index).1).tablesHold := by
  unfold State.muxDrop
  repeat' split
  all_goals first
    | exact ht
    | simp (maxDischargeDepth := 40) [ht, State.setMuxes]
@[simp] theorem State.serviceDrop_tables {s : State} (ht : s.tablesHold) (index : Nat) : ((s.serviceDrop index).1).tablesHold := by
  unfold State.serviceDrop
  repeat' split
  all_goals first
    | exact ht
    | simp (maxDischargeDepth := 40) [ht, State.setServices]
@[simp] theorem State.takeBatch_tables {s : State} (ht : s.tablesHold) (b : Batch) : ((s.takeBatch b).1).tablesHold := by
  unfold State.takeBatch
  repeat' split
  all_goals first
    | exact ht
    | simp (maxDischargeDepth := 40) [ht]
@[simp] theorem State.guideDrop_tables {s : State} (ht : s.tablesHold) (f : DropFields) : ((s.guideDrop f).1).tablesHold := by
  unfold State.guideDrop
  dsimp only
  repeat' split
  all_goals first
    | exact ht
    | simp (maxDischargeDepth := 40) [ht]
@[simp] theorem State.bookEvent_tables {s : State} (ht : s.tablesHold) (ref : EventRef) (o : Options) : ((s.bookEvent ref o).1).tablesHold := by
  unfold State.bookEvent
  repeat' (first | split | dsimp only)
  all_goals first
    | exact ht
    | (simp (maxDischargeDepth := 40) [ht]; done)
    | (rename_i hc
       have ht' := State.create_tables ht (fun _ => rfl) hc
       simp (maxDischargeDepth := 40) [ht'])
@[simp] theorem State.bookTime_tables {s : State} (ht : s.tablesHold) (f : TimeFields) (o : Options) : ((s.bookTime f o).1).tablesHold := by
  unfold State.bookTime
  repeat' (first | split | dsimp only)
  all_goals first
    | exact ht
    | (simp (maxDischargeDepth := 40) [ht]; done)
    | (rename_i hc
       have ht' := State.create_tables ht (fun _ => rfl) hc
       simp (maxDischargeDepth := 40) [ht'])
theorem State.amendPlanned_tables {s : State} (ht : s.tablesHold) (b : Booking) (o : Options) :
    (s.amendPlanned b o).1.tablesHold := by
  unfold State.amendPlanned
  dsimp only
  have hm := State.modBooking_const_tables ht b.handle (b.amendPlanned o (s.mainCapable b) s.now) (by simp)
  repeat' split
  all_goals simp (maxDischargeDepth := 40) [hm]

theorem State.amendRecording_tables {s : State} (ht : s.tablesHold) (b : Booking) (o : Options) :
    (s.amendRecording b o).1.tablesHold := by
  unfold State.amendRecording
  dsimp only
  have hm : ∀ x : Booking, x.handle = b.handle → (s.modBooking b.handle fun _ => x).tablesHold :=
    fun x hx => State.modBooking_const_tables ht b.handle x hx
  repeat' split
  all_goals first
    | exact ht
    | simp (maxDischargeDepth := 40) [hm]

@[simp] theorem State.amend_tables {s : State} (ht : s.tablesHold) (h : Nat) (o : Options) : ((s.amend h o).1).tablesHold := by
  unfold State.amend
  split
  · exact ht
  · split
    all_goals first
      | exact ht
      | exact State.amendPlanned_tables ht _ o
      | exact State.amendRecording_tables ht _ o
@[simp] theorem State.cancelPlanned_tables {s : State} (ht : s.tablesHold) (h : Nat) : ((s.cancelPlanned h).1).tablesHold := by
  unfold State.cancelPlanned
  repeat' split
  all_goals first
    | exact ht
    | simp (maxDischargeDepth := 40) [ht]
@[simp] theorem State.cancelRunning_tables {s : State} (ht : s.tablesHold) (h : Nat) : ((s.cancelRunning h).1).tablesHold := by
  unfold State.cancelRunning
  repeat' split
  all_goals first
    | exact ht
    | simp (maxDischargeDepth := 40) [ht]
@[simp] theorem State.cancel_tables {s : State} (ht : s.tablesHold) (h : Nat) : ((s.cancel h).1).tablesHold := by
  unfold State.cancel
  repeat' split
  all_goals first
    | exact ht
    | simp (maxDischargeDepth := 40) [ht]
@[simp] theorem State.purge_tables {s : State} (ht : s.tablesHold) (h : Nat) : ((s.purge h).1).tablesHold := by
  unfold State.purge
  repeat' split
  all_goals first
    | exact ht
    | simp (maxDischargeDepth := 40) [ht]
@[simp] theorem State.addLink_tables {s : State} (ht : s.tablesHold) (l : Link) : (s.addLink l).tablesHold := by
  unfold State.addLink
  repeat' split
  all_goals first
    | exact ht
    | simp (maxDischargeDepth := 40) [ht]
@[simp] theorem State.linkSeries_tables {s : State} (ht : s.tablesHold) (f : SeriesFields) (o : Options) : ((s.linkSeries f o).1).tablesHold := by
  unfold State.linkSeries
  repeat' split
  all_goals first
    | exact ht
    | simp (maxDischargeDepth := 40) [ht, linkReply]
@[simp] theorem State.linkSlot_tables {s : State} (ht : s.tablesHold) (f : SlotFields) (o : Options) : ((s.linkSlot f o).1).tablesHold := by
  unfold State.linkSlot
  repeat' split
  all_goals first
    | exact ht
    | simp (maxDischargeDepth := 40) [ht, linkReply]
@[simp] theorem State.rewriteOrigin_tables {s : State} (ht : s.tablesHold) (h : Nat) : (s.rewriteOrigin h).tablesHold := by
  unfold State.rewriteOrigin
  dsimp only
  repeat' split
  all_goals first
    | exact ht
    | simp (maxDischargeDepth := 40) [ht]
@[simp] theorem State.unlink_tables {s : State} (ht : s.tablesHold) (index : Nat) (keep : Bool) : ((s.unlink index keep).1).tablesHold := by
  unfold State.unlink
  split
  · exact ht
  · split
    · exact ht
    · dsimp only
      exact State.setLinks_tables (foldl_tables _ (fun _ _ ht => by simp [ht]) _
        (foldl_tables _ (fun _ _ ht => by simp [ht]) _ ht)) _
@[simp] theorem State.liveClaim_tables {s : State} (ht : s.tablesHold) (mux : Nat) (named : TunerId) : ((s.liveClaim mux named).1).tablesHold := by
  unfold State.liveClaim
  repeat' split
  all_goals first
    | exact ht
    | simp (maxDischargeDepth := 40) [ht]
@[simp] theorem State.releaseLive_tables {s : State} (ht : s.tablesHold)  : (s.releaseLive).tablesHold := by
  unfold State.releaseLive
  repeat' split
  all_goals first
    | exact ht
    | simp (maxDischargeDepth := 40) [ht]
@[simp] theorem State.clearFault_tables {s : State} (ht : s.tablesHold) (x : TunerId) : ((s.clearFault x).1).tablesHold := by
  unfold State.clearFault
  repeat' split
  all_goals first
    | exact ht
    | simp (maxDischargeDepth := 40) [ht]
@[simp] theorem State.clearChanges_tables {s : State} (ht : s.tablesHold)  : (s.clearChanges).tablesHold := by
  unfold State.clearChanges
  repeat' split
  all_goals first
    | exact ht
    | simp (maxDischargeDepth := 40) [ht]
@[simp] theorem State.completeGrace_tables {s : State} (ht : s.tablesHold) (x : TunerId) : (s.completeGrace x).tablesHold := by
  unfold State.completeGrace
  repeat' split
  all_goals first
    | exact ht
    | simp (maxDischargeDepth := 40) [ht]
@[simp] theorem State.lockRises_tables {s : State} (ht : s.tablesHold) (x : TunerId) : (s.lockRises x).tablesHold := by
  unfold State.lockRises
  dsimp only
  repeat' split
  all_goals first
    | exact ht
    | simp (maxDischargeDepth := 40) [ht]
@[simp] theorem State.lockFalls_tables {s : State} (ht : s.tablesHold) (x : TunerId) : (s.lockFalls x).tablesHold := by
  unfold State.lockFalls
  dsimp only
  repeat' split
  all_goals first
    | exact ht
    | simp (maxDischargeDepth := 40) [ht]
@[simp] theorem State.runStatus_tables {s : State} (ht : s.tablesHold) (ref : EventRef) (status : RunStatus) : ((s.runStatus ref status).1).tablesHold := by
  unfold State.runStatus
  split
  · exact ht
  · exact ⟨BookingTable.ordered_map ht.1 _ (fun b _ => by split <;> simp), ht.2⟩
@[simp] theorem State.reportReply_tables {s : State} (ht : s.tablesHold) (r : Result) (h : Nat) : ((s.reportReply r h).1).tablesHold := by
  unfold State.reportReply
  repeat' split
  all_goals first
    | exact ht
    | simp (maxDischargeDepth := 40) [ht]
@[simp] theorem State.begunReply_tables {s : State} (ht : s.tablesHold) (h : Nat) : ((s.begunReply h).1).tablesHold := by
  unfold State.begunReply
  repeat' split
  all_goals first
    | exact ht
    | simp (maxDischargeDepth := 40) [ht]
@[simp] theorem State.reportRefused_tables {s : State} (ht : s.tablesHold) (r : Result) (b : Booking) : ((s.reportRefused r b).1).tablesHold := ht
@[simp] theorem State.beginRecording_tables {s : State} (ht : s.tablesHold) (b : Booking) : (s.beginRecording b).tablesHold := by
  unfold State.beginRecording
  dsimp only
  have hm := State.modBooking_tables ht b.handle (fun c => c.begin (s.firstAttemptStart b.handle) s.now) (fun _ => by simp)
  repeat' split
  all_goals simp (maxDischargeDepth := 40) [hm]
@[simp] theorem State.begun_tables {s : State} (ht : s.tablesHold) (b : Booking) : ((s.begun b).1).tablesHold := by
  have hm := State.modBooking_tables ht b.handle (fun b => b.beginStopping s.now) (fun _ => rfl)
  unfold State.begun
  repeat' split
  all_goals first
    | exact ht
    | simp (maxDischargeDepth := 40) [ht, hm]
@[simp] theorem State.setActualStop_tables {s : State} (ht : s.tablesHold) (h : Nat) : (s.setActualStop h).tablesHold := by
  unfold State.setActualStop
  repeat' split
  all_goals first
    | exact ht
    | simp (maxDischargeDepth := 40) [ht]
@[simp] theorem State.ended_tables {s : State} (ht : s.tablesHold) (b : Booking) : ((s.ended b).1).tablesHold := by
  unfold State.ended
  repeat' split
  all_goals first
    | exact ht
    | simp (maxDischargeDepth := 40) [ht]
@[simp] theorem State.refusedByHost_tables {s : State} (ht : s.tablesHold) (b : Booking) : ((s.refusedByHost b).1).tablesHold := by
  unfold State.refusedByHost
  repeat' split
  all_goals first
    | exact ht
    | simp (maxDischargeDepth := 40) [ht]
@[simp] theorem State.faultInRecording_tables {s : State} (ht : s.tablesHold) (h : Nat) : (s.faultInRecording h).tablesHold := by
  unfold State.faultInRecording
  dsimp only
  repeat' split
  all_goals first
    | exact ht
    | simp (maxDischargeDepth := 40) [ht]
@[simp] theorem State.faultReported_tables {s : State} (ht : s.tablesHold) (b : Booking) : ((s.faultReported b).1).tablesHold := by
  unfold State.faultReported
  repeat' split
  all_goals first
    | exact ht
    | simp (maxDischargeDepth := 40) [ht]
@[simp] theorem State.dropMove_tables {s : State} (ht : s.tablesHold) (h : Nat) : (s.dropMove h).tablesHold := by
  unfold State.dropMove
  repeat' split
  all_goals first
    | exact ht
    | simp (maxDischargeDepth := 40) [ht]
@[simp] theorem State.judgeGap_tables {s : State} (ht : s.tablesHold) (h : Nat) : (s.judgeGap h).tablesHold := by
  unfold State.judgeGap
  repeat' split
  all_goals first
    | exact ht
    | simp (maxDischargeDepth := 40) [ht]
@[simp] theorem State.moveBooking_tables {s : State} (ht : s.tablesHold) (b : Booking) (t : MoveTarget) : (s.moveBooking b t).tablesHold := by
  unfold State.moveBooking
  repeat' split
  all_goals first
    | exact ht
    | simp (maxDischargeDepth := 40) [ht]
@[simp] theorem State.moved_tables {s : State} (ht : s.tablesHold) (b : Booking) : ((s.moved b).1).tablesHold := by
  unfold State.moved
  repeat' split
  all_goals first
    | exact ht
    | simp (maxDischargeDepth := 40) [ht]
@[simp] theorem State.hostReady_tables {s : State} (ht : s.tablesHold)  : (s.hostReady.1).tablesHold := by
  unfold State.hostReady
  repeat' split
  all_goals first
    | exact ht
    | simp (maxDischargeDepth := 40) [ht]
@[simp] theorem State.forceStops_tables {s : State} (ht : s.tablesHold) (handles : List Nat) : (s.forceStops handles).tablesHold := foldl_tables _ (fun _ _ ht => by simp [ht]) _ ht
@[simp] theorem State.hostSleeps_tables {s : State} (ht : s.tablesHold)  : (s.hostSleeps).tablesHold := by
  unfold State.hostSleeps
  repeat' split
  all_goals first
    | exact ht
    | simp (maxDischargeDepth := 40) [ht]
@[simp] theorem State.hostStandby_tables {s : State} (ht : s.tablesHold) (force : Bool) : ((s.hostStandby force).1).tablesHold := by
  unfold State.hostStandby
  repeat' split
  all_goals first
    | exact ht
    | simp (maxDischargeDepth := 40) [ht]
@[simp] theorem State.storageReport_tables {s : State} (ht : s.tablesHold) (free : Option Nat) : ((s.storageReport free).1).tablesHold := by
  unfold State.storageReport
  dsimp only
  repeat' split
  all_goals first
    | exact ht
    | simp (maxDischargeDepth := 40) [ht]
@[simp] theorem State.ackAlarm_tables {s : State} (ht : s.tablesHold)  : (s.ackAlarm.1).tablesHold := by
  unfold State.ackAlarm
  repeat' split
  all_goals first
    | exact ht
    | simp (maxDischargeDepth := 40) [ht]
theorem State.fetched_tables {s : State} (ht : s.tablesHold) (limit n room : Nat) :
    ((s.setOrderList (deliverFirst limit n s.orders.orders)).setNotices ⟨s.notices.queue.drop room, false⟩).tablesHold := by
  refine ⟨ht.1, ?_, ?_, ?_⟩
  · show ((deliverFirst limit n s.orders.orders).map (·.handle)).Nodup
    rw [deliverFirst_handles]
    exact ht.2.1
  · have := ht.2.2.1
    simp
    omega
  · exact List.Pairwise.sublist (List.Sublist.filterMap _ (List.drop_sublist _ _)) ht.2.2.2

@[simp] theorem State.fetch_tables {s : State} (ht : s.tablesHold)  : (s.fetch.1).tablesHold := by
  unfold State.fetch
  dsimp only
  have hf := State.fetched_tables ht s.settings.orderTimeout s.fetchedOrders.length (noticeRoom s.fetchedOrders.length)
  split
  · exact hf
  · exact State.evaluateWake_tables hf
@[simp] theorem State.reachEnd_tables {s : State} (ht : s.tablesHold) (h : Nat) : (s.reachEnd h).tablesHold := by
  unfold State.reachEnd
  dsimp only
  repeat' split
  all_goals first
    | exact ht
    | simp (maxDischargeDepth := 40) [ht]
@[simp] theorem State.startTimesOut_tables {s : State} (ht : s.tablesHold) (h : Nat) : (s.startTimesOut h).tablesHold := by
  unfold State.startTimesOut
  repeat' split
  all_goals first
    | exact ht
    | simp (maxDischargeDepth := 40) [ht]
@[simp] theorem State.issueMove_tables {s : State} (ht : s.tablesHold) (h : Nat) (t : MoveTarget) : (s.issueMove h t).tablesHold := by
  unfold State.issueMove
  repeat' split
  all_goals first
    | exact ht
    | simp (maxDischargeDepth := 40) [ht]
@[simp] theorem State.failover_tables {s : State} (ht : s.tablesHold) (b : Booking) : (s.failover b).tablesHold := by
  unfold State.failover
  repeat' split
  all_goals first
    | exact ht
    | simp (maxDischargeDepth := 40) [ht]
@[simp] theorem State.restartFailover_tables {s : State} (ht : s.tablesHold) (h : Nat) : (s.restartFailover h).tablesHold := by
  unfold State.restartFailover
  repeat' split
  all_goals first
    | exact ht
    | simp (maxDischargeDepth := 40) [ht]
@[simp] theorem State.testFailover_tables {s : State} (ht : s.tablesHold) (h : Nat) : (s.testFailover h).tablesHold := by
  unfold State.testFailover
  repeat' split
  all_goals first
    | exact ht
    | simp (maxDischargeDepth := 40) [ht]

end Sys2Proof.Machine
end

