-- ==== Sys2Proof/Laws/Keeps.lean ====
section
/-! SUPPORT. What the shapes of a command keep: the rules of the tables, and the waiting commands. -/

namespace Sys2Proof.Machine

/-! ## The rules of the tables -/

theorem State.tables_of_core {s t : State} (h : t.core = s.core) (hs : s.tablesHold) : t.tablesHold := by
  unfold State.core at h
  simp only [Prod.mk.injEq] at h
  obtain ⟨_, _, _, _, hb, ho, _, _, _, hn⟩ := h
  unfold State.tablesHold
  rw [hb, ho, hn]
  exact hs

@[simp] theorem State.settle_tables {s : State} (hs : s.tablesHold) : s.settle.tablesHold :=
  State.tables_of_core s.settle_core hs

theorem State.takeRequest_core {s t : State} {f : Frame} (h : s.takeRequest f = some t) : t.core = s.core := by
  unfold State.takeRequest at h
  split at h
  · cases h
    rfl
  · split at h
    · cases h
      rfl
    · cases h
  · cases h

theorem State.serve_tables {s : State} {f : Frame} {owner : Owner} (ho : (owner s).1.tablesHold) : (s.serve f owner).tablesHold :=
  State.tables_of_core (s.serve_core f owner) ho

/-- A request row keeps the rules when its owner does. -/
theorem request_tables {row : Instr} {f : Frame} {owner : Owner} {s t : State}
    (ho : ∀ u : State, u.tablesHold → (owner u).1.tablesHold) (hs : s.tablesHold) (h : request row f owner s = .next t) :
    t.tablesHold := by
  rcases request_cases h with rfl | ⟨u, hu, rfl⟩
  · exact hs
  · exact State.serve_tables (ho u (State.tables_of_core (State.takeRequest_core hu) hs))

/-- An owner that judges parsed operands keeps the rules when it does on each operand. -/
theorem parsed_tables {α : Type} {p : Parsed α} {owner : α → Owner} {u : State} (hu : u.tablesHold)
    (ho : ∀ x, (owner x u).1.tablesHold) : (parsed p owner u).1.tablesHold := by
  unfold parsed
  split
  · exact hu
  · exact ho _

/-- An event row keeps the rules when its effect does. -/
theorem event_tables {due : Bool} {act : State → State} {s t : State} (ha : (act s).tablesHold) (hs : s.tablesHold)
    (h : event due act s = .next t) : t.tablesHold := by
  rcases event_cases h with rfl | rfl
  · exact hs
  · exact State.settle_tables ha

/-- A line row keeps the rules when its parts do. -/
theorem lineRow_tables {fresh : Bool} {level act : State → State} {s t : State} (hl : (level s).tablesHold)
    (ha : (act (level s)).tablesHold) (hs : s.tablesHold) (h : lineRow fresh level act s = .next t) : t.tablesHold := by
  unfold lineRow at h
  repeat' split at h
  all_goals
    simp only [Host.Outcome.next.injEq] at h
    subst h
  · exact State.settle_tables ha
  · exact hl
  · exact hs

/-- A SET_* row keeps the rules when the owner's act does. -/
theorem settingOwner_tables {item : Config.Item} {body : List Byte} {act : State → State} {u : State} (hu : u.tablesHold)
    (ha : ∀ v : State, v.tablesHold → (act v).tablesHold) : (settingOwner item body act u).1.tablesHold := by
  unfold settingOwner
  refine parsed_tables hu (fun x => ?_)
  unfold setItem
  dsimp only
  split
  · exact hu
  · exact ha _ (State.storeSetting_tables hu _ _)

/-- A report row keeps the rules when its owner does. -/
theorem reportOwner_tables {body : List Byte} {owner : Booking → Owner} {u : State} (hu : u.tablesHold)
    (ho : ∀ b, (owner b u).1.tablesHold) : (reportOwner body owner u).1.tablesHold := by
  unfold reportOwner
  refine parsed_tables hu (fun h => ?_)
  split
  · exact hu
  · split
    · exact hu
    · exact ho _

@[simp] theorem State.setLockLine_tables {s : State} (hs : s.tablesHold) (x : TunerId) (level : Bool) :
    (s.setLockLine x level).tablesHold := by
  cases x <;> exact hs

@[simp] theorem State.setFaultLine_tables {s : State} (hs : s.tablesHold) (x : TunerId) (level : Bool) :
    (s.setFaultLine x level).tablesHold := by
  cases x <;> exact hs

/-! ## The waiting commands -/

theorem State.takeRequest_pending {s t : State} {f : Frame} (h : s.takeRequest f = some t) : t.pending = s.pending := by
  unfold State.takeRequest at h
  split at h
  · cases h
    rfl
  · split at h
    · cases h
      rfl
    · cases h
  · cases h

/-- A request row keeps the waiting commands when its owner does. -/
theorem request_pending {row : Instr} {f : Frame} {owner : Owner} {s t : State} (ho : ∀ u : State, (owner u).1.pending = u.pending)
    (h : request row f owner s = .next t) : t.pending = s.pending := by
  rcases request_cases h with rfl | ⟨u, hu, rfl⟩
  · rfl
  · rw [State.serve_pending, ho, State.takeRequest_pending hu]

/-- An event row keeps the waiting commands when its effect does. -/
theorem event_pending {due : Bool} {act : State → State} {s t : State} (ha : (act s).pending = s.pending)
    (h : event due act s = .next t) : t.pending = s.pending := by
  rcases event_cases h with rfl | rfl
  · rfl
  · rw [State.settle_pending, ha]

/-- A line row keeps the waiting commands when its parts do. -/
theorem lineRow_pending {fresh : Bool} {level act : State → State} {s t : State} (hl : (level s).pending = s.pending)
    (ha : (act (level s)).pending = s.pending) (h : lineRow fresh level act s = .next t) : t.pending = s.pending := by
  unfold lineRow at h
  repeat' split at h
  all_goals
    simp only [Host.Outcome.next.injEq] at h
    subst h
  · rw [State.settle_pending, ha]
  · exact hl
  · rfl

/-! ## The lines -/

/-- A request row leaves the lines following the state when they did before. -/
theorem request_linesFollow {row : Instr} {f : Frame} {owner : Owner} {s t : State} (hs : s.linesFollow)
    (h : request row f owner s = .next t) : t.linesFollow := by
  rcases request_cases h with rfl | ⟨u, _, rfl⟩
  · exact hs
  · exact State.serve_linesFollow _ _ _

/-- An event row leaves the lines following the state when they did before. -/
theorem event_linesFollow {due : Bool} {act : State → State} {s t : State} (hs : s.linesFollow) (h : event due act s = .next t) :
    t.linesFollow := by
  rcases event_cases h with rfl | rfl
  · exact hs
  · exact State.settle_linesFollow _

/-- A line row leaves the lines following the state when they did before; while RESETN is low there is nothing to follow. -/
theorem lineRow_linesFollow {fresh : Bool} {level act : State → State} {s t : State} (hs : s.linesFollow)
    (hl : (level s).lines.resetn = s.lines.resetn) (h : lineRow fresh level act s = .next t) : t.linesFollow := by
  unfold lineRow at h
  repeat' split at h
  all_goals
    simp only [Host.Outcome.next.injEq] at h
    subst h
  · exact State.settle_linesFollow _
  · rename_i hr
    intro hc
    rw [hl] at hc
    exact absurd hc hr
  · exact hs

end Sys2Proof.Machine
end

