-- ==== Sys2Proof/Laws/Outer.lean ====
section
/-! SUPPORT. What the operations on the clock, the catalogue and the guide do not touch: link, lines and the waiting commands
(`outer`); and the waiting commands through every command. -/

namespace Sys2Proof.Machine

@[simp] theorem State.setTime_outer (s : State) (x : TimeBase) : (s.setTime x).outer = s.outer := rfl
@[simp] theorem State.setCatalogue_outer (s : State) (x : Catalogue) : (s.setCatalogue x).outer = s.outer := rfl
@[simp] theorem State.setGuide_outer (s : State) (x : List Event) : (s.setGuide x).outer = s.outer := rfl

theorem foldl_outer {α : Type} (f : State → α → State) (h : ∀ s a, (f s a).outer = s.outer) (l : List α) (s : State) :
    (l.foldl f s).outer = s.outer := by
  induction l generalizing s with
  | nil => rfl
  | cons a l ih => rw [List.foldl_cons, ih, h]

@[simp] theorem ite_outer {c : Prop} [Decidable c] (s t : State) : (if c then s else t).outer = if c then s.outer else t.outer := by
  split <;> rfl

@[simp] theorem ite_fst_outer {α : Type} {c : Prop} [Decidable c] (p q : State × α) :
    (if c then p else q).1.outer = if c then p.1.outer else q.1.outer := by
  split <;> rfl

@[simp] theorem State.setLinks_outer (s : State) (x : List Link) : (s.setLinks x).outer = s.outer := State.outer_of_shell (by simp)
@[simp] theorem State.setBook_outer (s : State) (x : BookingTable) : (s.setBook x).outer = s.outer := State.outer_of_shell (by simp)
@[simp] theorem State.setPlanner_outer (s : State) (x : Planner) : (s.setPlanner x).outer = s.outer := State.outer_of_shell (by simp)
@[simp] theorem State.setOrders_outer (s : State) (x : OrderUnit) : (s.setOrders x).outer = s.outer := State.outer_of_shell (by simp)
@[simp] theorem State.setMonitor_outer (s : State) (x : TunerMonitor) : (s.setMonitor x).outer = s.outer := State.outer_of_shell (by simp)
@[simp] theorem State.setWake_outer (s : State) (x : WakeUnit) : (s.setWake x).outer = s.outer := State.outer_of_shell (by simp)
@[simp] theorem State.setStorage_outer (s : State) (x : Estimator) : (s.setStorage x).outer = s.outer := State.outer_of_shell (by simp)
@[simp] theorem State.setNotices_outer (s : State) (x : NoticeQueue) : (s.setNotices x).outer = s.outer := State.outer_of_shell (by simp)
@[simp] theorem State.modBooking_outer (s : State) (h : Nat) (f : Booking → Booking) : (s.modBooking h f).outer = s.outer := State.outer_of_shell (by simp)
@[simp] theorem State.modItems_outer (s : State) (h : Nat) (f : OrderItems → OrderItems) : (s.modItems h f).outer = s.outer := State.outer_of_shell (by simp)
@[simp] theorem State.trigger_outer (s : State) : (s.trigger).outer = s.outer := State.outer_of_shell (by simp)
@[simp] theorem State.markChanged_outer (s : State) (h : Nat) : (s.markChanged h).outer = s.outer := State.outer_of_shell (by simp)
@[simp] theorem State.bookingChanged_outer (s : State) (h : Nat) : (s.bookingChanged h).outer = s.outer := State.outer_of_shell (by simp)
@[simp] theorem State.leavesPlan_outer (s : State) (h : Nat) : (s.leavesPlan h).outer = s.outer := State.outer_of_shell (by simp)
@[simp] theorem State.opensInPass_outer (s : State) : (s.opensInPass).outer = s.outer := State.outer_of_shell (by simp)
@[simp] theorem State.liveClaimChanged_outer (s : State) : (s.liveClaimChanged).outer = s.outer := State.outer_of_shell (by simp)
@[simp] theorem State.offer_outer (s : State) (body : NoticeBody) : (s.offer body).outer = s.outer := State.outer_of_shell (by simp)
@[simp] theorem State.noteState_outer (s : State) (h : Nat) : (s.noteState h).outer = s.outer := State.outer_of_shell (by simp)
@[simp] theorem State.setOrderList_outer (s : State) (orders : List Order) : (s.setOrderList orders).outer = s.outer := State.outer_of_shell (by simp)
@[simp] theorem State.evaluateWake_outer (s : State) : (s.evaluateWake).outer = s.outer := State.outer_of_shell (by simp)
@[simp] theorem State.afterRemoval_outer (s : State) (old : Option Order) : (s.afterRemoval old).outer = s.outer := State.outer_of_shell (by simp)
@[simp] theorem State.issue_outer (s : State) (kind : OrderKind) (h : Nat) (tuner : Option TunerId) (attempt : Nat) (onRunning : Bool) : (s.issue kind h tuner attempt onRunning).outer = s.outer := State.outer_of_shell (by simp)
@[simp] theorem State.removeOrder_outer (s : State) (h : Nat) : (s.removeOrder h).outer = s.outer := State.outer_of_shell (by simp)
@[simp] theorem State.stop_outer (s : State) (h : Nat) (cause : StopCause) (truncated : Bool) : (s.stop h cause truncated).outer = s.outer := State.outer_of_shell (by simp)
@[simp] theorem State.takeFromAlternatives_outer (s : State) (ref : EventRef) : (s.takeFromAlternatives ref).outer = s.outer := State.outer_of_shell (by simp)
@[simp] theorem State.modLink_outer (s : State) (index : Nat) (f : Link → Link) : (s.modLink index f).outer = s.outer := State.outer_of_shell (by simp)
@[simp] theorem State.starve_outer (s : State) (index : Nat) : (s.starve index).outer = s.outer := State.outer_of_shell (by simp)
@[simp] theorem State.settleStarved_outer (s : State) (index : Nat) (refused : Bool) : (s.settleStarved index refused).outer = s.outer := State.outer_of_shell (by simp)
@[simp] theorem State.createOnEvent_outer (s : State) (l : Link) (e : Event) : (s.createOnEvent l e).state.outer = s.outer := State.outer_of_shell (by simp)
@[simp] theorem State.addAlternative_outer (s : State) (b : Booking) (e : Event) : (s.addAlternative b e).outer = s.outer := State.outer_of_shell (by simp)
@[simp] theorem State.switchAiring_outer (s : State) (b : Booking) (e : Event) : (s.switchAiring b e).outer = s.outer := State.outer_of_shell (by simp)
@[simp] theorem State.matchEpisode_outer (s : State) (l : Link) (e : Event) (key : Nat) (history : List Nat) : ((s.matchEpisode l e key history).state).outer = s.outer := State.outer_of_shell (by simp)
@[simp] theorem State.matchOne_outer (s : State) (index : Nat) (e : Event) : ((s.matchOne index e).state).outer = s.outer := State.outer_of_shell (by simp)
@[simp] theorem State.matchAll_outer (s : State) (index : Nat) (events : List Event) : (s.matchAll index events).state.outer = s.outer := State.outer_of_shell (by simp)
@[simp] theorem State.fullMatch_outer (s : State) (index : Nat) : ((s.fullMatch index).state).outer = s.outer := State.outer_of_shell (by simp)
@[simp] theorem State.modOccurrences_outer (s : State) (index : Nat) (f : List Occurrence → List Occurrence) : (s.modOccurrences index f).outer = s.outer := State.outer_of_shell (by simp)
@[simp] theorem State.bookDay_outer (s : State) (l : Link) (service : Nat) (weekdays : BitVec 7) (minute duration : Nat) (day : Int) : (s.bookDay l service weekdays minute duration day).state.outer = s.outer := State.outer_of_shell (by simp)
@[simp] theorem State.retimeEntry_outer (s : State) (l : Link) (minute duration : Nat) (o : Occurrence) : (s.retimeEntry l minute duration o).outer = s.outer := State.outer_of_shell (by simp)
@[simp] theorem State.instantiate_outer (s : State) (index : Nat) (retime : Bool) : (s.instantiate index retime).state.outer = s.outer := State.outer_of_shell (by simp)
@[simp] theorem State.instantiateAll_outer (s : State) (retime : Bool) : (s.instantiateAll retime).outer = s.outer := State.outer_of_shell (by simp)
@[simp] theorem State.retry_outer (s : State) (index : Nat) : (s.retry index).outer = s.outer := State.outer_of_shell (by simp)
@[simp] theorem State.retryStarved_outer (s : State) : s.retryStarved.outer = s.outer := State.outer_of_shell (by simp)
@[simp] theorem State.matchBatch_outer (s : State) (events : List Event) : (s.matchBatch events).outer = s.outer := State.outer_of_shell (by simp)
@[simp] theorem State.keepHistory_outer (s : State) (b : Booking) (v : Verdict) : (s.keepHistory b v).outer = s.outer := State.outer_of_shell (by simp)
@[simp] theorem State.setTuner_outer (s : State) (x : TunerId) (t : Tuner) : (s.setTuner x t).outer = s.outer := State.outer_of_shell (by simp)
@[simp] theorem State.beginGap_outer (s : State) (h : Nat) : (s.beginGap h).outer = s.outer := State.outer_of_shell (by simp)
@[simp] theorem State.endGap_outer (s : State) (h : Nat) : (s.endGap h).outer = s.outer := State.outer_of_shell (by simp)
@[simp] theorem State.endGapOfTuner_outer (s : State) (h : Nat) : (s.endGapOfTuner h).outer = s.outer := State.outer_of_shell (by simp)
@[simp] theorem State.gapsBegin_outer (s : State) (x : TunerId) : (s.gapsBegin x).outer = s.outer := State.outer_of_shell (by simp)
@[simp] theorem State.gapsEnd_outer (s : State) (x : TunerId) : (s.gapsEnd x).outer = s.outer := State.outer_of_shell (by simp)
@[simp] theorem State.changeTuner_outer (s : State) (x : TunerId) (new : Tuner) (cause : ChangeCause) : (s.changeTuner x new cause).outer = s.outer := State.outer_of_shell (by simp)
@[simp] theorem State.comeIntoUse_outer (s : State) (x : TunerId) : (s.comeIntoUse x).outer = s.outer := State.outer_of_shell (by simp)
@[simp] theorem State.goOutOfUse_outer (s : State) (x : TunerId) : (s.goOutOfUse x).outer = s.outer := State.outer_of_shell (by simp)
@[simp] theorem State.evaluateUse_outer (s : State) (x : TunerId) : (s.evaluateUse x).outer = s.outer := State.outer_of_shell (by simp)
@[simp] theorem State.evaluateTuners_outer (s : State) : (s.evaluateTuners).outer = s.outer := State.outer_of_shell (by simp)
@[simp] theorem State.arrive_outer (s : State) (x : TunerId) (mux : Nat) : (s.arrive x mux).outer = s.outer := State.outer_of_shell (by simp)
@[simp] theorem State.bookingArrives_outer (s : State) (h : Nat) : (s.bookingArrives h).outer = s.outer := State.outer_of_shell (by simp)
@[simp] theorem State.setLatch_outer (s : State) (x : TunerId) : (s.setLatch x).outer = s.outer := State.outer_of_shell (by simp)
@[simp] theorem State.faultRises_outer (s : State) (x : TunerId) : (s.faultRises x).outer = s.outer := State.outer_of_shell (by simp)
@[simp] theorem State.leaveAbandon_outer (s : State) (h : Nat) : (s.leaveAbandon h).outer = s.outer := State.outer_of_shell (by simp)
@[simp] theorem State.finishCore_outer (s : State) (h : Nat) (v : Verdict) (unconfirmed : Bool) : (s.finishCore h v unconfirmed).outer = s.outer := State.outer_of_shell (by simp)
@[simp] theorem State.finish_outer (s : State) (h : Nat) (v : Verdict) (unconfirmed : Bool) : (s.finish h v unconfirmed).outer = s.outer := State.outer_of_shell (by simp)
@[simp] theorem State.finishByOutcome_outer (s : State) (h : Nat) (reason : Reason) (unconfirmed : Bool) : (s.finishByOutcome h reason unconfirmed).outer = s.outer := State.outer_of_shell (by simp)
@[simp] theorem State.removeRecords_outer (s : State) (old : Booking → Bool) : (s.removeRecords old).outer = s.outer := State.outer_of_shell (by simp)
@[simp] theorem State.enterDue_outer (s : State) (h : Nat) (onRunning resumed : Bool) : (s.enterDue h onRunning resumed).outer = s.outer := State.outer_of_shell (by simp)
@[simp] theorem State.openBooking_outer (s : State) (h : Nat) (resumed : Bool) : (s.openBooking h resumed).outer = s.outer := State.outer_of_shell (by simp)
@[simp] theorem State.testOpening_outer (s : State) (h : Nat) : (s.testOpening h).outer = s.outer := State.outer_of_shell (by simp)
@[simp] theorem State.backToPending_outer (s : State) (h : Nat) : (s.backToPending h).outer = s.outer := State.outer_of_shell (by simp)
@[simp] theorem State.endRule_outer (s : State) (h : Nat) : (s.endRule h).outer = s.outer := State.outer_of_shell (by simp)
@[simp] theorem State.endRuleUnlessOpen_outer (s : State) (h : Nat) : (s.endRuleUnlessOpen h).outer = s.outer := State.outer_of_shell (by simp)
@[simp] theorem State.notRunningStops_outer (s : State) (h : Nat) : (s.notRunningStops h).outer = s.outer := State.outer_of_shell (by simp)
@[simp] theorem State.takeEffect_outer (s : State) (b : Booking) (status : RunStatus) : (s.takeEffect b status).outer = s.outer := State.outer_of_shell (by simp)
@[simp] theorem State.completeHold_outer (s : State) (h : Nat) : (s.completeHold h).outer = s.outer := State.outer_of_shell (by simp)
@[simp] theorem State.slackRule_outer (s : State) (h : Nat) : (s.slackRule h).outer = s.outer := State.outer_of_shell (by simp)
@[simp] theorem State.judgeSpace_outer (s : State) : (s.judgeSpace).outer = s.outer := State.outer_of_shell (by simp)
@[simp] theorem State.evaluateStorage_outer (s : State) : (s.evaluateStorage).outer = s.outer := State.outer_of_shell (by simp)
@[simp] theorem State.startPass_outer (s : State) : (s.startPass).outer = s.outer := State.outer_of_shell (by simp)
@[simp] theorem State.writeResult_outer (s : State) (r : BookingResult) : (s.writeResult r).outer = s.outer := State.outer_of_shell (by simp)
@[simp] theorem State.writeClaim_outer (s : State) (r : ClaimResult) : (s.writeClaim r).outer = s.outer := State.outer_of_shell (by simp)
@[simp] theorem State.compareWritten_outer (s : State) (h : Nat) (chosen : Bool) : (s.compareWritten h chosen).outer = s.outer := State.outer_of_shell (by simp)
@[simp] theorem State.applyClaim_outer (s : State) (r : ClaimResult) : (s.applyClaim r).outer = s.outer := State.outer_of_shell (by simp)
@[simp] theorem State.countStepHold_outer (s : State) : (s.countStepHold).outer = s.outer := State.outer_of_shell (by simp)
@[simp] theorem State.openAtPassEnd_outer (s : State) (written : List BookingResult) : (s.openAtPassEnd written).outer = s.outer := State.outer_of_shell (by simp)
@[simp] theorem State.handLive_outer (s : State) (l : LivePlacement) : (s.handLive l).outer = s.outer := State.outer_of_shell (by simp)
@[simp] theorem State.handLiveResult_outer (s : State) (p : Pass) (live : Option LivePlacement) : (s.handLiveResult p live).outer = s.outer := State.outer_of_shell (by simp)
@[simp] theorem State.closePass_outer (s : State) (p : Pass) : (s.closePass p).outer = s.outer := State.outer_of_shell (by simp)
@[simp] theorem State.writePass_outer (s : State) (p : Pass) (r : PassResult) : (s.writePass p r).outer = s.outer := State.outer_of_shell (by simp)
@[simp] theorem State.bookingStep_outer (s : State) : (s.bookingStep).outer = s.outer := State.outer_of_shell (by simp)
@[simp] theorem State.stepEnds_outer (s : State) : (s.stepEnds).outer = s.outer := State.outer_of_shell (by simp)
@[simp] theorem State.stepSlack_outer (s : State) : (s.stepSlack).outer = s.outer := State.outer_of_shell (by simp)
@[simp] theorem State.stepArmed_outer (s : State) : (s.stepArmed).outer = s.outer := State.outer_of_shell (by simp)
@[simp] theorem State.stepDue_outer (s : State) : (s.stepDue).outer = s.outer := State.outer_of_shell (by simp)
@[simp] theorem State.setStepHold_outer (s : State) : (s.setStepHold).outer = s.outer := State.outer_of_shell (by simp)
@[simp] theorem State.orderStep_outer (s : State) (old : Nat) : (s.orderStep old).outer = s.outer := State.outer_of_shell (by simp)
@[simp] theorem State.forgetReached_outer (s : State) : (s.forgetReached).outer = s.outer := State.outer_of_shell (by simp)
@[simp] theorem State.guideChange_outer (s : State) (h : Nat) (f : Booking → Booking) : (s.guideChange h f).outer = s.outer := State.outer_of_shell (by simp)
@[simp] theorem State.follow_outer (s : State) (b : Booking) (old new : Event) : (s.follow b old new).outer = s.outer := State.outer_of_shell (by simp)
@[simp] theorem State.mainRemoved_outer (s : State) (b : Booking) : (s.mainRemoved b).outer = s.outer := State.outer_of_shell (by simp)
@[simp] theorem State.eventRemoved_outer (s : State) (ref : EventRef) : (s.eventRemoved ref).outer = s.outer := State.outer_of_shell (by simp)
@[simp] theorem State.eventUpdated_outer (s : State) (old new : Event) : (s.eventUpdated old new).outer = s.outer := State.outer_of_shell (by simp)
@[simp] theorem State.restartNotices_outer (s : State) : (s.restartNotices).outer = s.outer := State.outer_of_shell (by simp)
@[simp] theorem State.restartTuners_outer (s : State) : (s.restartTuners).outer = s.outer := State.outer_of_shell (by simp)
@[simp] theorem State.restartWake_outer (s : State) : (s.restartWake).outer = s.outer := State.outer_of_shell (by simp)
@[simp] theorem State.restartOrders_outer (s : State) : (s.restartOrders).outer = s.outer := State.outer_of_shell (by simp)
@[simp] theorem State.restartStopping_outer (s : State) (h : Nat) : (s.restartStopping h).outer = s.outer := State.outer_of_shell (by simp)
@[simp] theorem State.resumeBooking_outer (s : State) (h : Nat) : (s.resumeBooking h).outer = s.outer := State.outer_of_shell (by simp)
@[simp] theorem State.keepAtRestart_outer (s : State) (h : Nat) : (s.keepAtRestart h).outer = s.outer := State.outer_of_shell (by simp)
@[simp] theorem State.restartBookings_outer (s : State) (stopping resumed kept : List Nat) : (s.restartBookings stopping resumed kept).outer = s.outer := State.outer_of_shell (by simp)
@[simp] theorem State.restart_outer (s : State) : (s.restart.1).outer = s.outer := State.outer_of_shell (by simp)
@[simp] theorem State.feedModeChanged_outer (s : State) : (s.feedModeChanged).outer = s.outer := State.outer_of_shell (by simp)
@[simp] theorem State.purgeAged_outer (s : State) : (s.purgeAged).outer = s.outer := State.outer_of_shell (by simp)
@[simp] theorem State.slackChanged_outer (s : State) : (s.slackChanged).outer = s.outer := State.outer_of_shell (by simp)
@[simp] theorem State.runHoldChanged_outer (s : State) : (s.runHoldChanged).outer = s.outer := State.outer_of_shell (by simp)
@[simp] theorem State.losesSignal_outer (s : State) (x : TunerId) : (s.losesSignal x).outer = s.outer := State.outer_of_shell (by simp)
@[simp] theorem State.completeLoss_outer (s : State) (x : TunerId) : (s.completeLoss x).outer = s.outer := State.outer_of_shell (by simp)
@[simp] theorem State.lossHoldChanged_outer (s : State) : (s.lossHoldChanged).outer = s.outer := State.outer_of_shell (by simp)
@[simp] theorem State.wakeModeChanged_outer (s : State) : (s.wakeModeChanged).outer = s.outer := State.outer_of_shell (by simp)
@[simp] theorem State.wakeFails_outer (s : State) (attempt : Nat) : (s.wakeFails attempt).outer = s.outer := State.outer_of_shell (by simp)
@[simp] theorem State.attemptCompletes_outer (s : State) : (s.attemptCompletes).outer = s.outer := State.outer_of_shell (by simp)
@[simp] theorem State.wakeTimeoutChanged_outer (s : State) : (s.wakeTimeoutChanged).outer = s.outer := State.outer_of_shell (by simp)
@[simp] theorem State.spaceAlarmChanged_outer (s : State) : (s.spaceAlarmChanged).outer = s.outer := State.outer_of_shell (by simp)
@[simp] theorem State.noticeMaskChanged_outer (s : State) : (s.noticeMaskChanged).outer = s.outer := State.outer_of_shell (by simp)
@[simp] theorem State.bookEvent_outer (s : State) (ref : EventRef) (o : Options) : (s.bookEvent ref o).1.outer = s.outer := State.outer_of_shell (by simp)
@[simp] theorem State.bookTime_outer (s : State) (f : TimeFields) (o : Options) : (s.bookTime f o).1.outer = s.outer := State.outer_of_shell (by simp)
@[simp] theorem State.amendPlanned_outer (s : State) (b : Booking) (o : Options) : ((s.amendPlanned b o).1).outer = s.outer := State.outer_of_shell (by simp)
@[simp] theorem State.amendRecording_outer (s : State) (b : Booking) (o : Options) : ((s.amendRecording b o).1).outer = s.outer := State.outer_of_shell (by simp)
@[simp] theorem State.amend_outer (s : State) (h : Nat) (o : Options) : ((s.amend h o).1).outer = s.outer := State.outer_of_shell (by simp)
@[simp] theorem State.cancelPlanned_outer (s : State) (h : Nat) : ((s.cancelPlanned h).1).outer = s.outer := State.outer_of_shell (by simp)
@[simp] theorem State.cancelRunning_outer (s : State) (h : Nat) : ((s.cancelRunning h).1).outer = s.outer := State.outer_of_shell (by simp)
@[simp] theorem State.cancel_outer (s : State) (h : Nat) : ((s.cancel h).1).outer = s.outer := State.outer_of_shell (by simp)
@[simp] theorem State.purge_outer (s : State) (h : Nat) : ((s.purge h).1).outer = s.outer := State.outer_of_shell (by simp)
@[simp] theorem State.addLink_outer (s : State) (l : Link) : (s.addLink l).outer = s.outer := State.outer_of_shell (by simp)
@[simp] theorem State.linkSeries_outer (s : State) (f : SeriesFields) (o : Options) : ((s.linkSeries f o).1).outer = s.outer := State.outer_of_shell (by simp)
@[simp] theorem State.linkSlot_outer (s : State) (f : SlotFields) (o : Options) : ((s.linkSlot f o).1).outer = s.outer := State.outer_of_shell (by simp)
@[simp] theorem State.rewriteOrigin_outer (s : State) (h : Nat) : (s.rewriteOrigin h).outer = s.outer := State.outer_of_shell (by simp)
@[simp] theorem State.unlink_outer (s : State) (index : Nat) (keep : Bool) : ((s.unlink index keep).1).outer = s.outer := State.outer_of_shell (by simp)
@[simp] theorem State.liveClaim_outer (s : State) (mux : Nat) (named : TunerId) : ((s.liveClaim mux named).1).outer = s.outer := State.outer_of_shell (by simp)
@[simp] theorem State.releaseLive_outer (s : State) : (s.releaseLive).outer = s.outer := State.outer_of_shell (by simp)
@[simp] theorem State.clearFault_outer (s : State) (x : TunerId) : ((s.clearFault x).1).outer = s.outer := State.outer_of_shell (by simp)
@[simp] theorem State.clearChanges_outer (s : State) : (s.clearChanges).outer = s.outer := State.outer_of_shell (by simp)
@[simp] theorem State.completeGrace_outer (s : State) (x : TunerId) : (s.completeGrace x).outer = s.outer := State.outer_of_shell (by simp)
@[simp] theorem State.lockRises_outer (s : State) (x : TunerId) : (s.lockRises x).outer = s.outer := State.outer_of_shell (by simp)
@[simp] theorem State.lockFalls_outer (s : State) (x : TunerId) : (s.lockFalls x).outer = s.outer := State.outer_of_shell (by simp)
@[simp] theorem State.runStatus_outer (s : State) (ref : EventRef) (status : RunStatus) : ((s.runStatus ref status).1).outer = s.outer := State.outer_of_shell (by simp)
@[simp] theorem State.reportReply_outer (s : State) (r : Result) (h : Nat) : ((s.reportReply r h).1).outer = s.outer := State.outer_of_shell (by simp)
@[simp] theorem State.reportRefused_outer (s : State) (r : Result) (b : Booking) : ((s.reportRefused r b).1).outer = s.outer := State.outer_of_shell (by simp)
@[simp] theorem State.beginRecording_outer (s : State) (b : Booking) : (s.beginRecording b).outer = s.outer := State.outer_of_shell (by simp)
@[simp] theorem State.begun_outer (s : State) (b : Booking) : ((s.begun b).1).outer = s.outer := State.outer_of_shell (by simp)
@[simp] theorem State.setActualStop_outer (s : State) (h : Nat) : (s.setActualStop h).outer = s.outer := State.outer_of_shell (by simp)
@[simp] theorem State.ended_outer (s : State) (b : Booking) : ((s.ended b).1).outer = s.outer := State.outer_of_shell (by simp)
@[simp] theorem State.refusedByHost_outer (s : State) (b : Booking) : ((s.refusedByHost b).1).outer = s.outer := State.outer_of_shell (by simp)
@[simp] theorem State.faultInRecording_outer (s : State) (h : Nat) : (s.faultInRecording h).outer = s.outer := State.outer_of_shell (by simp)
@[simp] theorem State.faultReported_outer (s : State) (b : Booking) : ((s.faultReported b).1).outer = s.outer := State.outer_of_shell (by simp)
@[simp] theorem State.dropMove_outer (s : State) (h : Nat) : (s.dropMove h).outer = s.outer := State.outer_of_shell (by simp)
@[simp] theorem State.judgeGap_outer (s : State) (h : Nat) : (s.judgeGap h).outer = s.outer := State.outer_of_shell (by simp)
@[simp] theorem State.moveBooking_outer (s : State) (b : Booking) (t : MoveTarget) : (s.moveBooking b t).outer = s.outer := State.outer_of_shell (by simp)
@[simp] theorem State.moved_outer (s : State) (b : Booking) : ((s.moved b).1).outer = s.outer := State.outer_of_shell (by simp)
@[simp] theorem State.hostReady_outer (s : State) : (s.hostReady.1).outer = s.outer := State.outer_of_shell (by simp)
@[simp] theorem State.forceStops_outer (s : State) (handles : List Nat) : (s.forceStops handles).outer = s.outer := State.outer_of_shell (by simp)
@[simp] theorem State.hostSleeps_outer (s : State) : (s.hostSleeps).outer = s.outer := State.outer_of_shell (by simp)
@[simp] theorem State.hostStandby_outer (s : State) (force : Bool) : ((s.hostStandby force).1).outer = s.outer := State.outer_of_shell (by simp)
@[simp] theorem State.storageReport_outer (s : State) (free : Option Nat) : ((s.storageReport free).1).outer = s.outer := State.outer_of_shell (by simp)
@[simp] theorem State.ackAlarm_outer (s : State) : (s.ackAlarm.1).outer = s.outer := State.outer_of_shell (by simp)
@[simp] theorem State.fetch_outer (s : State) : (s.fetch.1).outer = s.outer := State.outer_of_shell (by simp)
@[simp] theorem State.riseAtRelease_outer (s : State) : (s.riseAtRelease).outer = s.outer := State.outer_of_shell (by simp)
@[simp] theorem State.reachEnd_outer (s : State) (h : Nat) : (s.reachEnd h).outer = s.outer := State.outer_of_shell (by simp)
@[simp] theorem State.startTimesOut_outer (s : State) (h : Nat) : (s.startTimesOut h).outer = s.outer := State.outer_of_shell (by simp)
@[simp] theorem State.issueMove_outer (s : State) (h : Nat) (t : MoveTarget) : (s.issueMove h t).outer = s.outer := State.outer_of_shell (by simp)
@[simp] theorem State.failover_outer (s : State) (b : Booking) : (s.failover b).outer = s.outer := State.outer_of_shell (by simp)
@[simp] theorem State.restartFailover_outer (s : State) (h : Nat) : (s.restartFailover h).outer = s.outer := State.outer_of_shell (by simp)
@[simp] theorem State.testFailover_outer (s : State) (h : Nat) : (s.testFailover h).outer = s.outer := State.outer_of_shell (by simp)
@[simp] theorem State.setZone_outer (s : State) (offset : Int) (cause : ZoneCause) : (s.setZone offset cause).outer = s.outer := by
  unfold State.setZone
  dsimp only
  repeat' split
  all_goals simp
@[simp] theorem State.takeNextChange_outer (s : State)  : (s.takeNextChange).outer = s.outer := by
  unfold State.takeNextChange
  split <;> simp
@[simp] theorem State.stepClock_outer (s : State) (b : Nat) : (s.stepClock b).outer = s.outer := by
  unfold State.stepClock
  simp
@[simp] theorem State.markSecond_outer (s : State)  : (s.markSecond).outer = s.outer := by
  unfold State.markSecond
  simp
@[simp] theorem State.endSecond_outer (s : State)  : (s.endSecond).outer = s.outer := by
  unfold State.endSecond
  simp
@[simp] theorem State.expire_outer (s : State)  : (s.expire).outer = s.outer := by
  unfold State.expire
  simp
@[simp] theorem State.applyBatch_outer (s : State) (b : Batch) : ((s.applyBatch b).1).outer = s.outer := by
  unfold State.applyBatch
  dsimp only
  rw [State.setGuide_outer]
  split <;> simp
@[simp] theorem State.bookBatch_outer (s : State) (e : BatchEffect) : (s.bookBatch e).outer = s.outer := by
  unfold State.bookBatch
  simp [foldl_outer]
@[simp] theorem State.guideBatch_outer (s : State) (b : Batch) : ((s.guideBatch b).1).outer = s.outer := by
  unfold State.guideBatch
  simp
@[simp] theorem State.dropEvents_outer (s : State) (gone : List Event) : (s.dropEvents gone).outer = s.outer := by
  unfold State.dropEvents
  simp [foldl_outer]
@[simp] theorem State.timeReport_outer (s : State) (b : Nat) : ((s.timeReport b).1).outer = s.outer := by
  unfold State.timeReport
  simp
@[simp] theorem State.zoneReport_outer (s : State) (z : ZoneFields) : ((s.zoneReport z).1).outer = s.outer := by
  unfold State.zoneReport
  dsimp only
  repeat' split
  all_goals simp
@[simp] theorem State.startDay_outer (s : State)  : (s.startDay).outer = s.outer := by
  unfold State.startDay
  simp
@[simp] theorem State.setMuxes_outer (s : State) (muxes : List Mux) : (s.setMuxes muxes).outer = s.outer := rfl
@[simp] theorem State.setServices_outer (s : State) (services : List Service) : (s.setServices services).outer = s.outer := rfl
@[simp] theorem State.muxLoad_outer (s : State) (id quadrant : Nat) : ((s.muxLoad id quadrant).1).outer = s.outer := by
  unfold State.muxLoad
  repeat' (first | split | dsimp only)
  all_goals simp
@[simp] theorem State.serviceLoad_outer (s : State) (f : ServiceFields) : ((s.serviceLoad f).1).outer = s.outer := by
  unfold State.serviceLoad
  repeat' (first | split | dsimp only)
  all_goals simp
@[simp] theorem State.muxDrop_outer (s : State) (index : Nat) : ((s.muxDrop index).1).outer = s.outer := by
  unfold State.muxDrop
  repeat' (first | split | dsimp only)
  all_goals simp
@[simp] theorem State.serviceDrop_outer (s : State) (index : Nat) : ((s.serviceDrop index).1).outer = s.outer := by
  unfold State.serviceDrop
  repeat' (first | split | dsimp only)
  all_goals simp
@[simp] theorem State.takeBatch_outer (s : State) (b : Batch) : ((s.takeBatch b).1).outer = s.outer := by
  unfold State.takeBatch
  repeat' (first | split | dsimp only)
  all_goals simp
@[simp] theorem State.guideDrop_outer (s : State) (f : DropFields) : ((s.guideDrop f).1).outer = s.outer := by
  unfold State.guideDrop
  repeat' (first | split | dsimp only)
  all_goals simp

@[simp] theorem State.holdLine_pending (s : State) : s.holdLine.pending = s.pending := rfl
@[simp] theorem State.storeSetting_pending (s : State) (item : Config.Item) (n : Nat) : (s.storeSetting item n).pending = s.pending := rfl
@[simp] theorem State.countGap_pending (s : State) (ticks : Nat) : (s.countGap ticks).pending = s.pending := by
  unfold State.countGap
  split <;> rfl
@[simp] theorem State.setLockLine_pending (s : State) (x : TunerId) (level : Bool) : (s.setLockLine x level).pending = s.pending := by
  cases x <;> rfl
@[simp] theorem State.setFaultLine_pending (s : State) (x : TunerId) (level : Bool) : (s.setFaultLine x level).pending = s.pending := by
  cases x <;> rfl
theorem State.pending_of_outer {s t : State} (h : t.outer = s.outer) : t.pending = s.pending := congrArg (·.2.2) h
theorem State.link_of_outer {s t : State} (h : t.outer = s.outer) : t.link = s.link := congrArg (·.1) h
theorem State.lines_of_outer {s t : State} (h : t.outer = s.outer) : t.lines = s.lines := congrArg (·.2.1) h

end Sys2Proof.Machine
end

