-- ==== Sys2Proof/Laws/Finished.lean ====
section
/-! SUPPORT. A Finished record stays as it is, and its notice told, through the work that follows a finish (R47): retries of Starved links,
the in-use rule; and so the record of a booking that finishes is the one `Booking.finished` gives, and its notice the one of R51. -/

namespace Sys2Proof.Machine

/-! ## A notice that stays told -/

/-- What changes neither the notice queue nor the link keeps what is told. -/
theorem State.tellsOf.keep {s t : State} {h : Nat} {r : BookingReport} (ht : s.tellsOf h r) (hn : t.notices = s.notices)
    (hl : t.link.settings = s.link.settings) : t.tellsOf h r := by
  unfold State.tellsOf
  rw [hn, hl]
  exact ht

theorem mem_removeNotice {key : NoticeBody → Option Nat} {h : Nat} {n : Notice} {queue : List Notice} (hn : n ∈ queue)
    (hk : key n.body ≠ some h) : n ∈ removeNotice key h queue := by
  simp [removeNotice, hn, hk]

theorem mem_replaceNotice {key : NoticeBody → Option Nat} {h : Nat} {m n : Notice} {queue : List Notice} (hn : n ∈ queue)
    (hk : key n.body ≠ some h) : n ∈ replaceNotice key h m queue :=
  List.mem_map.mpr ⟨n, hn, by simp [hk]⟩

/-- Offering a notice that is not a BookingState of this booking leaves the booking's BookingState notice where it is (R186). -/
theorem mem_offerTo {mask : BitVec 7} {m n : Notice} {q : NoticeQueue} {h : Nat} {r : BookingReport} (hb : n.body = .bookingState h r)
    (ho : m.body.stateOf ≠ some h) (hn : n ∈ q.queue) : n ∈ (offerTo mask m q).queue := by
  have found : ∀ k, n.body.foundOf ≠ some k := fun k => by rw [hb]; simp [NoticeBody.foundOf]
  have cleared : ∀ k, n.body.clearedOf ≠ some k := fun k => by rw [hb]; simp [NoticeBody.clearedOf]
  unfold offerTo
  split
  · split
    · rename_i queue hc
      unfold coalesced at hc
      repeat' split at hc
      all_goals first
        | (simp only [Option.some.injEq] at hc
           subst hc
           first
             | exact mem_removeNotice hn (found _)
             | exact mem_removeNotice hn (cleared _)
             | exact mem_replaceNotice hn (found _)
             | exact mem_replaceNotice hn (cleared _)
             | (rename_i heq _
                refine mem_replaceNotice hn ?_
                rw [heq] at ho
                rw [hb]
                exact fun hh => ho (by simpa [NoticeBody.stateOf] using (Option.some.inj hh).symm)))
        | cases hc
    · split
      · simp [hn]
      · exact hn
  · exact hn

theorem offerTo_lost {mask : BitVec 7} {m : Notice} {q : NoticeQueue} (hl : q.lost = true) : (offerTo mask m q).lost = true := by
  unfold offerTo
  repeat' split
  all_goals first
    | exact hl
    | rfl

theorem State.offer_tellsOf {s : State} {h : Nat} {r : BookingReport} (ht : s.tellsOf h r) {body : NoticeBody}
    (ho : body.stateOf ≠ some h) : (s.offer body).tellsOf h r := by
  intro hm
  rcases ht hm with hl | ⟨n, hn, hb⟩
  · exact Or.inl (offerTo_lost hl)
  · exact Or.inr ⟨n, mem_offerTo hb ho hn, hb⟩

theorem mem_replaceNotice_new {key : NoticeBody → Option Nat} {h : Nat} {n : Notice} {queue : List Notice}
    (hq : hasNotice key h queue = true) : n ∈ replaceNotice key h n queue := by
  obtain ⟨m, hm, hk⟩ := List.any_eq_true.mp hq
  exact List.mem_map.mpr ⟨m, hm, by simp [hk]⟩

/-- A BookingState notice offered is told (R51, R186). -/
theorem State.offer_tells (s : State) (h : Nat) (r : BookingReport) : (s.offer (.bookingState h r)).tellsOf h r := by
  intro hm
  show (offerTo _ _ _).lost = true ∨ ∃ n ∈ (offerTo _ _ _).queue, _
  have he : enabled s.settings.noticeMask (.bookingState h r) = true := hm
  unfold offerTo
  rw [if_pos he]
  split
  · rename_i queue hc
    unfold coalesced at hc
    dsimp only at hc
    split at hc
    · rename_i hq
      simp only [Option.some.injEq] at hc
      subst hc
      exact Or.inr ⟨_, mem_replaceNotice_new hq, rfl⟩
    · cases hc
  · split
    · exact Or.inr ⟨_, List.mem_append_right _ (List.mem_singleton.mpr rfl), rfl⟩
    · exact Or.inl rfl

theorem State.noteState_tellsOf {s : State} {h k : Nat} {r : BookingReport} (ht : s.tellsOf h r) (hk : k ≠ h) :
    (s.noteState k).tellsOf h r := by
  unfold State.noteState
  split
  · exact ht
  · exact State.offer_tellsOf ht (by simpa [NoticeBody.stateOf] using hk)

/-- A record noted is told as it stands (R51). -/
theorem State.noteState_tells {s : State} {h : Nat} {b : Booking} (hb : s.booking? h = some b) :
    (s.noteState h).tellsOf h ⟨b.state, b.placement, b.verdict, .none⟩ := by
  unfold State.noteState
  rw [hb]
  exact State.offer_tells s h _

/-! What touches neither a BookingState notice nor the settings keeps what is told. -/

@[simp] theorem State.modBooking_tellsOf {s : State} {h : Nat} {r : BookingReport} (ht : s.tellsOf h r) (k : Nat) (f : Booking → Booking) :
    (s.modBooking k f).tellsOf h r := ht.keep rfl rfl
@[simp] theorem State.modItems_tellsOf {s : State} {h : Nat} {r : BookingReport} (ht : s.tellsOf h r) (k : Nat) (f : OrderItems → OrderItems) :
    (s.modItems k f).tellsOf h r := ht.keep rfl rfl
@[simp] theorem State.setBook_tellsOf {s : State} {h : Nat} {r : BookingReport} (ht : s.tellsOf h r) (x : BookingTable) :
    (s.setBook x).tellsOf h r := ht.keep rfl rfl
@[simp] theorem State.trigger_tellsOf {s : State} {h : Nat} {r : BookingReport} (ht : s.tellsOf h r) :
    (s.trigger).tellsOf h r := ht.keep rfl rfl
@[simp] theorem State.setOrderList_tellsOf {s : State} {h : Nat} {r : BookingReport} (ht : s.tellsOf h r) (l : List Order) :
    (s.setOrderList l).tellsOf h r := ht.keep rfl rfl
@[simp] theorem State.leaveAbandon_tellsOf {s : State} {h : Nat} {r : BookingReport} (ht : s.tellsOf h r) (k : Nat) :
    (s.leaveAbandon k).tellsOf h r := ht.keep rfl rfl
@[simp] theorem State.modLink_tellsOf {s : State} {h : Nat} {r : BookingReport} (ht : s.tellsOf h r) (i : Nat) (f : Link → Link) :
    (s.modLink i f).tellsOf h r := ht.keep rfl rfl
@[simp] theorem State.settleStarved_tellsOf {s : State} {h : Nat} {r : BookingReport} (ht : s.tellsOf h r) (i : Nat) (b : Bool) :
    (s.settleStarved i b).tellsOf h r := ht.keep rfl rfl
@[simp] theorem State.modOccurrences_tellsOf {s : State} {h : Nat} {r : BookingReport} (ht : s.tellsOf h r) (i : Nat) (f : List Occurrence → List Occurrence) :
    (s.modOccurrences i f).tellsOf h r := ht.keep rfl rfl
@[simp] theorem State.markChanged_tellsOf {s : State} {h : Nat} {r : BookingReport} (ht : s.tellsOf h r) (k : Nat) :
    (s.markChanged k).tellsOf h r := by
  unfold State.markChanged
  split <;> exact ht.keep rfl rfl
@[simp] theorem State.bookingChanged_tellsOf {s : State} {h : Nat} {r : BookingReport} (ht : s.tellsOf h r) (k : Nat) :
    (s.bookingChanged k).tellsOf h r := by
  unfold State.bookingChanged
  exact State.trigger_tellsOf (State.markChanged_tellsOf ht k)
@[simp] theorem State.evaluateWake_tellsOf {s : State} {h : Nat} {r : BookingReport} (ht : s.tellsOf h r) :
    (s.evaluateWake).tellsOf h r := by
  unfold State.evaluateWake
  repeat' split
  all_goals exact ht.keep rfl rfl
@[simp] theorem State.afterRemoval_tellsOf {s : State} {h : Nat} {r : BookingReport} (ht : s.tellsOf h r) (old : Option Order) :
    (s.afterRemoval old).tellsOf h r := by
  unfold State.afterRemoval
  repeat' split
  all_goals simp [ht]
@[simp] theorem State.removeOrder_tellsOf {s : State} {h : Nat} {r : BookingReport} (ht : s.tellsOf h r) (k : Nat) :
    (s.removeOrder k).tellsOf h r := by
  unfold State.removeOrder
  simp [ht]
@[simp] theorem State.keepHistory_tellsOf {s : State} {h : Nat} {r : BookingReport} (ht : s.tellsOf h r) (b : Booking) (v : Verdict) :
    (s.keepHistory b v).tellsOf h r := by
  unfold State.keepHistory
  repeat' split
  all_goals simp [ht]
@[simp] theorem State.setTuner_tellsOf {s : State} {h : Nat} {r : BookingReport} (ht : s.tellsOf h r) (x : TunerId) (y : Tuner) :
    (s.setTuner x y).tellsOf h r := by
  cases x <;> exact ht.keep rfl rfl
@[simp] theorem State.starve_tellsOf {s : State} {h : Nat} {r : BookingReport} (ht : s.tellsOf h r) (i : Nat) :
    (s.starve i).tellsOf h r := by
  unfold State.starve
  repeat' split
  all_goals first
    | exact ht
    | exact State.offer_tellsOf (State.modLink_tellsOf ht _ _) (by simp [NoticeBody.stateOf])
theorem State.create_tellsOf {s t : State} {h k : Nat} {r : BookingReport} (ht : s.tellsOf h r) {make : Nat → Booking}
    (hc : s.create make = some (k, t)) : t.tellsOf h r := by
  unfold State.create at hc
  split at hc
  · simp only [Option.some.injEq, Prod.mk.injEq] at hc
    rw [← hc.2]
    exact ht.keep rfl rfl
  · cases hc

@[simp] theorem State.offer_booked_tellsOf {s : State} {h : Nat} {r : BookingReport} (ht : s.tellsOf h r) (i k : Nat) :
    (s.offer (.seriesBooked i k)).tellsOf h r := State.offer_tellsOf ht (by simp [NoticeBody.stateOf])
@[simp] theorem State.offer_tunerChange_tellsOf {s : State} {h : Nat} {r : BookingReport} (ht : s.tellsOf h r) (x : TunerId)
    (c : Condition) (f : Bool) (m : Option Nat) (w : ChangeCause) : (s.offer (.tunerChange x c f m w)).tellsOf h r :=
  State.offer_tellsOf ht (by simp [NoticeBody.stateOf])

/-- The record at a handle is this Finished one, the tables hold to their rules, and its notice is told. -/
def State.done (s : State) (h : Nat) (d : Booking) (r : BookingReport) : Prop :=
  s.tablesHold ∧ s.booking? h = some d ∧ d.state = .finished ∧ s.tellsOf h r

/-! ## Finding records -/

theorem State.booking_of_book {s t : State} (hb : t.book = s.book) (h : Nat) : t.booking? h = s.booking? h := by
  unfold State.booking?
  rw [hb]

theorem find_map_other {l : List Booking} {f : Booking → Booking} {h : Nat}
    (hf : ∀ b ∈ l, (f b).handle = b.handle ∧ (b.handle = h → f b = b)) :
    ((l.map f).find? fun b => b.handle == h) = l.find? fun b => b.handle == h := by
  induction l with
  | nil => rfl
  | cons a l ih =>
    have ha := hf a (by simp)
    have hl := ih (fun b hb => hf b (by simp [hb]))
    simp only [List.map_cons, List.find?_cons, ha.1]
    by_cases hh : a.handle = h
    · simp [hh, ha.2 hh]
    · have hne : (a.handle == h) = false := by simpa using hh
      simp only [hne]
      exact hl

/-- Changing another record leaves this one. -/
theorem State.modBooking_booking_ne {s : State} {h k : Nat} {f : Booking → Booking} (hk : k ≠ h)
    (hf : ∀ b, (f b).handle = b.handle) : (s.modBooking k f).booking? h = s.booking? h := by
  unfold State.modBooking State.booking?
  apply find_map_other
  intro b _
  constructor
  · split <;> simp [hf]
  · intro hb
    have : ¬ b.handle = k := fun hc => hk (by rw [← hc, hb])
    simp [this]

/-- The record changed is the one found. -/
theorem State.modBooking_booking_eq {s : State} {h : Nat} {b : Booking} {f : Booking → Booking} (hb : s.booking? h = some b)
    (hf : ∀ b, b.handle = h → (f b).handle = h) : (s.modBooking h f).booking? h = some (f b) := by
  unfold State.booking? at hb
  unfold State.modBooking State.booking?
  show ((s.book.records.map _).find? _) = _
  revert hb
  generalize s.book.records = l
  intro hb
  induction l with
  | nil => simp at hb
  | cons a l ih =>
    rw [List.find?_cons] at hb
    by_cases hh : a.handle = h
    · have : (a.handle == h) = true := by simpa using hh
      rw [this] at hb
      simp only [Option.some.injEq] at hb
      subst hb
      rw [List.map_cons, if_pos this, List.find?_cons]
      simp [hf a hh]
    · have : (a.handle == h) = false := by simpa using hh
      rw [this] at hb
      simp only [List.map_cons, this, Bool.false_eq_true, if_false, List.find?_cons]
      exact ih hb

theorem find_of_mem {l : List Booking} (hp : (l.map (·.handle)).Pairwise (· < ·)) {b : Booking} (hb : b ∈ l) :
    (l.find? fun x => x.handle == b.handle) = some b := by
  induction l with
  | nil => simp at hb
  | cons a l ih =>
    simp only [List.map_cons, List.pairwise_cons] at hp
    rw [List.find?_cons]
    rcases List.mem_cons.mp hb with rfl | hm
    · simp
    · have hlt : a.handle < b.handle := hp.1 _ (List.mem_map_of_mem hm)
      have : (a.handle == b.handle) = false := by simpa using Nat.ne_of_lt hlt
      rw [this]
      exact ih hp.2 hm

/-- In a table in order a record is found under its handle. -/
theorem State.booking_of_mem {s : State} (hs : s.tablesHold) {b : Booking} (hb : b ∈ s.book.records) :
    s.booking? b.handle = some b := find_of_mem hs.1.1 hb

/-- A record found is in the table. -/
theorem State.mem_of_booking {s : State} {h : Nat} {b : Booking} (hb : s.booking? h = some b) : b ∈ s.book.records :=
  List.mem_of_find?_eq_some hb

/-- A record in another state has another handle. -/
theorem State.done.ne {s : State} {h : Nat} {d : Booking} {r : BookingReport} (hd : s.done h d r) {b : Booking} (hb : b ∈ s.book.records)
    (hu : b.state ≠ .finished) : b.handle ≠ h := by
  intro hh
  have := State.booking_of_mem hd.1 hb
  rw [hh, hd.2.1] at this
  simp only [Option.some.injEq] at this
  exact hu (this ▸ hd.2.2.1)

theorem State.done.ne_of_found {s : State} {h k : Nat} {d b : Booking} {r : BookingReport} (hd : s.done h d r) (hb : s.booking? k = some b)
    (hu : b.state ≠ .finished) : k ≠ h := by
  rw [← State.booking_handle hb]
  exact hd.ne (State.mem_of_booking hb) hu

/-- A record taken out of the table by its handle, now in another state, was not the Finished one. -/
theorem Booking.unfinished_ne {b : Booking} (hb : b.unfinished = true) : b.state ≠ .finished := by
  unfold Booking.unfinished at hb
  simpa using hb

theorem Booking.planned_ne {b : Booking} (hb : b.planned = true) : b.state ≠ .finished := by
  unfold Booking.planned at hb
  intro h
  simp [h] at hb

/-! ## Operations that keep a Finished record -/

theorem State.done.of_book {s t : State} {h : Nat} {d : Booking} {r : BookingReport} (hd : s.done h d r) (ht : t.tablesHold) (hb : t.book = s.book)
    (hn : t.tellsOf h r) : t.done h d r := ⟨ht, by rw [State.booking_of_book hb]; exact hd.2.1, hd.2.2.1, hn⟩

theorem State.done.modBooking {s : State} {h k : Nat} {d : Booking} {r : BookingReport} (hd : s.done h d r) (hk : k ≠ h) {f : Booking → Booking}
    (hf : ∀ b, (f b).handle = b.handle) : (s.modBooking k f).done h d r :=
  ⟨State.modBooking_tables hd.1 _ _ hf, by rw [State.modBooking_booking_ne hk hf]; exact hd.2.1, hd.2.2.1, by simp [hd.2.2.2]⟩

theorem State.done.foldl {α : Type} {f : State → α → State} {h : Nat} {d : Booking} {r : BookingReport} {p : α → Prop}
    (hf : ∀ s a, p a → s.done h d r → (f s a).done h d r) {l : List α} (hl : ∀ a ∈ l, p a) {s : State} (hd : s.done h d r) :
    (l.foldl f s).done h d r := by
  induction l generalizing s with
  | nil => exact hd
  | cons a l ih => exact ih (fun b hb => hl b (by simp [hb])) (hf s a (hl a (by simp)) hd)

@[simp] theorem State.trigger_book (s : State) : s.trigger.book = s.book := rfl
@[simp] theorem State.markChanged_book (s : State) (h : Nat) : (s.markChanged h).book = s.book := by
  unfold State.markChanged
  split <;> rfl
@[simp] theorem State.bookingChanged_book (s : State) (h : Nat) : (s.bookingChanged h).book = s.book := by
  simp [State.bookingChanged]
@[simp] theorem State.offer_book (s : State) (body : NoticeBody) : (s.offer body).book = s.book := rfl
@[simp] theorem State.noteState_book (s : State) (h : Nat) : (s.noteState h).book = s.book := by
  unfold State.noteState
  split <;> rfl
@[simp] theorem State.evaluateWake_book (s : State) : s.evaluateWake.book = s.book := by
  unfold State.evaluateWake
  repeat' split
  all_goals rfl
@[simp] theorem State.afterRemoval_book (s : State) (old : Option Order) : (s.afterRemoval old).book = s.book := by
  unfold State.afterRemoval
  repeat' split
  all_goals simp
@[simp] theorem State.removeOrder_book (s : State) (h : Nat) : (s.removeOrder h).book = s.book := by
  unfold State.removeOrder
  simp [State.setOrderList]
@[simp] theorem State.issue_book (s : State) (kind : OrderKind) (h : Nat) (tuner : Option TunerId) (attempt : Nat)
    (onRunning : Bool) : (s.issue kind h tuner attempt onRunning).book = s.book := by
  unfold State.issue
  repeat' split
  all_goals simp [State.setOrderList]
@[simp] theorem State.leaveAbandon_book (s : State) (h : Nat) : (s.leaveAbandon h).book = s.book := rfl
@[simp] theorem State.modLink_book (s : State) (index : Nat) (f : Link → Link) : (s.modLink index f).book = s.book := rfl
@[simp] theorem State.starve_book (s : State) (index : Nat) : (s.starve index).book = s.book := by
  unfold State.starve
  repeat' split
  all_goals simp
@[simp] theorem State.settleStarved_book (s : State) (index : Nat) (r : Bool) : (s.settleStarved index r).book = s.book := rfl
@[simp] theorem State.keepHistory_book (s : State) (b : Booking) (v : Verdict) : (s.keepHistory b v).book = s.book := by
  unfold State.keepHistory
  repeat' split
  all_goals simp
@[simp] theorem State.modOccurrences_book (s : State) (index : Nat) (f : List Occurrence → List Occurrence) :
    (s.modOccurrences index f).book = s.book := rfl
@[simp] theorem State.setTuner_book (s : State) (x : TunerId) (t : Tuner) : (s.setTuner x t).book = s.book := by
  cases x <;> rfl

theorem State.done.noted {s : State} {h k : Nat} {d : Booking} {r : BookingReport} (hd : s.done h d r) (hk : k ≠ h) (f : Booking → Booking)
    (hf : ∀ b, (f b).handle = b.handle) : (((s.modBooking k f).bookingChanged k).noteState k).done h d r := by
  have h1 := hd.modBooking hk hf
  exact h1.of_book (by simp (maxDischargeDepth := 40) [h1.1]) (by simp) (State.noteState_tellsOf (by simp [h1.2.2.2]) hk)

theorem State.done.create {s t : State} {h k : Nat} {d : Booking} {r : BookingReport} {make : Nat → Booking} (hd : s.done h d r)
    (hm : ∀ h, (make h).handle = h) (hc : s.create make = some (k, t)) : t.done h d r := by
  have ht := State.create_tables hd.1 hm hc
  have hn := State.create_tellsOf hd.2.2.2 hc
  unfold State.create at hc
  split at hc
  · simp only [Option.some.injEq, Prod.mk.injEq] at hc
    refine ⟨ht, ?_, hd.2.2.1, hn⟩
    have hmem := State.mem_of_booking hd.2.1
    have : d ∈ t.book.records := by
      rw [← hc.2]
      exact (mem_insertBy _ _ _ _).mpr (Or.inr hmem)
    have hf := State.booking_of_mem ht this
    rwa [State.booking_handle hd.2.1] at hf
  · simp at hc

theorem State.done.takeFromAlternatives {s : State} {h : Nat} {d : Booking} {r : BookingReport} (hd : s.done h d r) (ref : EventRef) :
    (s.takeFromAlternatives ref).done h d r := by
  unfold State.takeFromAlternatives
  refine State.done.foldl (p := fun b => b.handle ≠ h) (fun s b hb hd => ?_) (fun b hb => ?_) hd
  · exact hd.noted hb _ (fun _ => rfl)
  · obtain ⟨hm, hp⟩ := List.mem_filter.mp hb
    simp only [Bool.and_eq_true] at hp
    exact hd.ne hm (Booking.unfinished_ne hp.1)

theorem State.done.createOnEvent {s : State} {h : Nat} {d : Booking} {r : BookingReport} (hd : s.done h d r) (l : Link) (e : Event) :
    (s.createOnEvent l e).state.done h d r := by
  unfold State.createOnEvent
  split
  · exact hd.of_book (by simp [hd.1]) (by simp) (by simp [hd.2.2.2])
  · rename_i hc
    have hc' := hd.create (fun _ => rfl) hc
    have ht := hc'.takeFromAlternatives e.ref
    exact ht.of_book (by simp [ht.1]) (by simp) (by simp [ht.2.2.2])

theorem mem_insertBy_iff {α : Type} (before : α → α → Bool) (x y : α) (l : List α) : y ∈ insertBy before x l ↔ y = x ∨ y ∈ l :=
  mem_insertBy before x y l

theorem mem_sortBy {α : Type} (before : α → α → Bool) (y : α) (l : List α) : y ∈ sortBy before l ↔ y ∈ l := by
  unfold sortBy
  induction l with
  | nil => simp
  | cons a l ih => simp [mem_insertBy, ih]

theorem State.chief_mem {s : State} {index key : Nat} {c : Booking} (hc : s.chief index key = some c) :
    c ∈ s.book.records ∧ c.unfinished = true := by
  unfold State.chief at hc
  have hm := List.mem_of_mem_head? hc
  rw [mem_sortBy, List.mem_filter] at hm
  refine ⟨hm.1, ?_⟩
  have := hm.2
  simp only [Bool.and_eq_true] at this
  exact this.1.1

theorem State.done.matchOne {s : State} {h : Nat} {d : Booking} {r : BookingReport} (hd : s.done h d r) (index : Nat) (e : Event) :
    (s.matchOne index e).state.done h d r := by
  unfold State.matchOne
  repeat' split
  all_goals first
    | exact hd
    | exact hd.createOnEvent _ _
    | skip
  unfold State.matchEpisode
  repeat' split
  all_goals first
    | exact hd
    | exact hd.createOnEvent _ _
    | skip
  · rename_i hc _
    have hne := hd.ne (State.chief_mem hc).1 (Booking.unfinished_ne (State.chief_mem hc).2)
    unfold State.addAlternative
    repeat' split
    all_goals first
      | exact hd
      | exact hd.noted hne _ (fun _ => rfl)
  · rename_i hc _ _
    have hne := hd.ne (State.chief_mem hc).1 (Booking.unfinished_ne (State.chief_mem hc).2)
    unfold State.switchAiring
    exact hd.noted hne _ (fun _ => rfl)

theorem State.done.matchAll {s : State} {h : Nat} {d : Booking} {r : BookingReport} (hd : s.done h d r) (index : Nat) (events : List Event) :
    (s.matchAll index events).state.done h d r := by
  unfold State.matchAll
  have : ∀ (l : List Event) (m : Matched), m.state.done h d r → (l.foldl (fun m e =>
      let n := m.state.matchOne index e
      (⟨n.state, m.refused || n.refused, m.created + n.created⟩ : Matched)) m).state.done h d r := by
    intro l
    induction l with
    | nil => exact fun _ hm => hm
    | cons a l ih => exact fun m hm => ih _ (hm.matchOne index a)
  exact this events ⟨s, false, 0⟩ hd

theorem State.done.fullMatch {s : State} {h : Nat} {d : Booking} {r : BookingReport} (hd : s.done h d r) (index : Nat) :
    (s.fullMatch index).state.done h d r := by
  unfold State.fullMatch
  split
  · exact hd
  · have hm := hd.matchAll index
    exact (hm _).of_book (State.settleStarved_tables (hm _).1 _ _) rfl (by simp [(hm _).2.2.2])

theorem State.done.bookDay {s : State} {h : Nat} {d : Booking} {r : BookingReport} (hd : s.done h d r) (l : Link) (service : Nat)
    (weekdays : BitVec 7) (minute duration : Nat) (day : Int) :
    (s.bookDay l service weekdays minute duration day).state.done h d r := by
  unfold State.bookDay
  repeat' split
  all_goals first
    | exact hd
    | (rename_i hc
       have hc' := hd.create (fun _ => rfl) hc
       exact hc'.of_book (by simp [hc'.1]) (by simp) (by simp [hc'.2.2.2]))
    | exact hd.of_book (by simp [hd.1]) (by simp) (by simp [hd.2.2.2])

theorem State.done.retimeEntry {s : State} {h : Nat} {d : Booking} {r : BookingReport} (hd : s.done h d r) (l : Link) (minute duration : Nat)
    (o : Occurrence) : (s.retimeEntry l minute duration o).done h d r := by
  unfold State.retimeEntry
  repeat' split
  all_goals first
    | exact hd
    | (rename_i hb hp _ _ _ _
       have hne := hd.ne (State.mem_of_booking hb) (by rw [hp.1]; simp)
       exact hd.noted hne _ (fun _ => rfl))

theorem State.done.instantiate {s : State} {h : Nat} {d : Booking} {r : BookingReport} (hd : s.done h d r) (index : Nat) (retime : Bool) :
    (s.instantiate index retime).state.done h d r := by
  have days : ∀ (l : Link) (service : Nat) (weekdays : BitVec 7) (minute duration : Nat) (list : List Int) (m : Matched),
      m.state.done h d r → (list.foldl (fun m day =>
        let n := m.state.bookDay l service weekdays minute duration day
        (⟨n.state, m.refused || n.refused, m.created + n.created⟩ : Matched)) m).state.done h d r := by
    intro l service weekdays minute duration list
    induction list with
    | nil => exact fun _ hm => hm
    | cons a list ih => exact fun m hm => ih _ (hm.bookDay l service weekdays minute duration a)
  unfold State.instantiate
  by_cases hc : s.time.clockSet
  case neg => simpa [hc] using hd
  rw [if_pos hc]
  cases hl : s.link? index with
  | none => exact hd
  | some l =>
  dsimp only
  cases hp : l.part with
  | series => exact hd
  | slot service weekdays minute duration occurrences =>
  dsimp only
  have hfin : ∀ u : State, u.done h d r → (((eightDays s.today).foldl (fun m day =>
        let n := m.state.bookDay l service weekdays minute duration day
        (⟨n.state, m.refused || n.refused, m.created + n.created⟩ : Matched)) ⟨u, false, 0⟩).state).done h d r :=
    fun u hu => days l service weekdays minute duration _ ⟨u, false, 0⟩ hu
  have h0 : (s.modOccurrences index fun os =>
      os.filter fun o => decide (s.today ≤ o.day) && decide (o.day ≤ s.today + 7)).done h d r :=
    hd.of_book (State.modOccurrences_tables hd.1 _ _) rfl (by simp [hd.2.2.2])
  cases retime with
  | true =>
    have h1 := hfin _ (State.done.foldl (p := fun _ => True) (f := fun s o => s.retimeEntry l minute duration o)
      (fun s o _ hs => hs.retimeEntry l minute duration o)
      (l := (s.modOccurrences index fun os =>
        os.filter fun o => decide (s.today ≤ o.day) && decide (o.day ≤ s.today + 7)).occurrences index)
      (fun _ _ => trivial) h0)
    exact h1.of_book (State.settleStarved_tables h1.1 _ _) rfl (by simp [h1.2.2.2])
  | false =>
    have h1 := hfin _ h0
    exact h1.of_book (State.settleStarved_tables h1.1 _ _) rfl (by simp [h1.2.2.2])

theorem State.done.retry {s : State} {h : Nat} {d : Booking} {r : BookingReport} (hd : s.done h d r) (index : Nat) : (s.retry index).done h d r := by
  unfold State.retry
  repeat' split
  all_goals first
    | exact hd
    | exact hd.fullMatch _
    | exact hd.instantiate _ _

theorem State.done.retryStarved {s : State} {h : Nat} {d : Booking} {r : BookingReport} (hd : s.done h d r) : s.retryStarved.done h d r := by
  unfold State.retryStarved
  exact State.done.foldl (p := fun _ => True) (fun _ _ _ hs => hs.retry _) (fun _ _ => trivial) hd

theorem State.done.beginGap {s : State} {h k : Nat} {d : Booking} {r : BookingReport} (hd : s.done h d r) (hk : k ≠ h) : (s.beginGap k).done h d r :=
  hd.modBooking hk (fun _ => rfl)

theorem State.done.endGapOfTuner {s : State} {h k : Nat} {d : Booking} {r : BookingReport} (hd : s.done h d r) (hk : k ≠ h) :
    (s.endGapOfTuner k).done h d r := by
  unfold State.endGapOfTuner State.endGap State.modItems
  have h1 := hd.modBooking hk (f := fun b => { b with items := { b.items with inGap := false, failover := 0 } }) (fun _ => rfl)
  dsimp only
  split
  · have h2 := h1.modBooking hk (f := fun b => { b with items := { b.items with moveTarget := none } }) (fun _ => rfl)
    exact h2.of_book (State.removeOrder_tables h2.1 _) (by simp) (by simp [h2.2.2.2])
  · exact h1

theorem State.done.changeTuner {s : State} {h : Nat} {d : Booking} {r : BookingReport} (hd : s.done h d r) (x : TunerId) (new : Tuner)
    (cause : ChangeCause) : (s.changeTuner x new cause).done h d r := by
  unfold State.changeTuner
  have h1 : ((s.setTuner x { new with changeLatch := true }).offer
      (.tunerChange x new.condition new.faultLatch new.tuned cause)).done h d r :=
    hd.of_book (by simp [hd.1]) (by simp) (by simp [hd.2.2.2])
  have rec_ne : ∀ (u : State) (p : Booking → Bool) (b : Booking), u.done h d r →
      b ∈ u.book.records.filter (fun b => b.state == .recording && p b) → b.handle ≠ h := by
    intro u p b hu hb
    obtain ⟨hm, hp⟩ := List.mem_filter.mp hb
    simp only [Bool.and_eq_true, beq_iff_eq] at hp
    exact hu.ne hm (by rw [hp.1]; simp)
  dsimp only
  repeat' split
  · unfold State.gapsBegin
    refine State.done.foldl (p := fun b : Booking => b.handle ≠ h) (fun _ _ hb hs => hs.beginGap hb) (fun b hb => ?_) h1
    simp only [Bool.and_assoc] at hb
    exact rec_ne _ (fun b => b.placement.tuner? == some x && !b.items.inGap) b h1 hb
  · unfold State.gapsEnd
    refine State.done.foldl (p := fun b : Booking => b.handle ≠ h) (fun _ _ hb hs => hs.endGapOfTuner hb) (fun b hb => ?_) h1
    simp only [Bool.and_assoc] at hb
    exact rec_ne _ (fun b => b.placement.tuner? == some x && b.items.inGap) b h1 hb
  · exact h1

theorem State.done.evaluateUse {s : State} {h : Nat} {d : Booking} {r : BookingReport} (hd : s.done h d r) (x : TunerId) : (s.evaluateUse x).done h d r := by
  unfold State.evaluateUse State.comeIntoUse State.goOutOfUse
  repeat' split
  all_goals first
    | exact hd
    | exact hd.changeTuner _ _ _

theorem State.done.evaluateTuners {s : State} {h : Nat} {d : Booking} {r : BookingReport} (hd : s.done h d r) : s.evaluateTuners.done h d r :=
  (hd.evaluateUse .a).evaluateUse .b

/-! ## Records that the tuners leave alone, and what is told of them -/

/-- The record at a handle is this one, not Recording, the tables hold to their rules, and this report of it is told. -/
def State.calm (s : State) (h : Nat) (d : Booking) (r : BookingReport) : Prop :=
  s.tablesHold ∧ s.booking? h = some d ∧ d.state ≠ .recording ∧ s.tellsOf h r

theorem State.calm.of_book {s t : State} {h : Nat} {d : Booking} {r : BookingReport} (hd : s.calm h d r) (ht : t.tablesHold) (hb : t.book = s.book)
    (hn : t.tellsOf h r) : t.calm h d r := ⟨ht, by rw [State.booking_of_book hb]; exact hd.2.1, hd.2.2.1, hn⟩

theorem State.calm.ne {s : State} {h : Nat} {d : Booking} {r : BookingReport} (hd : s.calm h d r) {b : Booking} (hb : b ∈ s.book.records)
    (hu : b.state = .recording) : b.handle ≠ h := by
  intro hh
  have := State.booking_of_mem hd.1 hb
  rw [hh, hd.2.1] at this
  simp only [Option.some.injEq] at this
  exact hd.2.2.1 (this ▸ hu)

theorem State.calm.modBooking {s : State} {h k : Nat} {d : Booking} {r : BookingReport} (hd : s.calm h d r) (hk : k ≠ h) {f : Booking → Booking}
    (hf : ∀ b, (f b).handle = b.handle) : (s.modBooking k f).calm h d r :=
  ⟨State.modBooking_tables hd.1 _ _ hf, by rw [State.modBooking_booking_ne hk hf]; exact hd.2.1, hd.2.2.1, by simp [hd.2.2.2]⟩

theorem State.calm.foldl {α : Type} {f : State → α → State} {h : Nat} {d : Booking} {r : BookingReport} {p : α → Prop}
    (hf : ∀ s a, p a → s.calm h d r → (f s a).calm h d r) {l : List α} (hl : ∀ a ∈ l, p a) {s : State} (hd : s.calm h d r) :
    (l.foldl f s).calm h d r := by
  induction l generalizing s with
  | nil => exact hd
  | cons a l ih => exact ih (fun b hb => hl b (by simp [hb])) (hf s a (hl a (by simp)) hd)

theorem State.calm.beginGap {s : State} {h k : Nat} {d : Booking} {r : BookingReport} (hd : s.calm h d r) (hk : k ≠ h) : (s.beginGap k).calm h d r :=
  hd.modBooking hk (fun _ => rfl)

theorem State.calm.endGapOfTuner {s : State} {h k : Nat} {d : Booking} {r : BookingReport} (hd : s.calm h d r) (hk : k ≠ h) :
    (s.endGapOfTuner k).calm h d r := by
  unfold State.endGapOfTuner State.endGap State.modItems
  have h1 := hd.modBooking hk (f := fun b => { b with items := { b.items with inGap := false, failover := 0 } }) (fun _ => rfl)
  dsimp only
  split
  · have h2 := h1.modBooking hk (f := fun b => { b with items := { b.items with moveTarget := none } }) (fun _ => rfl)
    exact h2.of_book (State.removeOrder_tables h2.1 _) (by simp) (by simp [h2.2.2.2])
  · exact h1

theorem State.calm.changeTuner {s : State} {h : Nat} {d : Booking} {r : BookingReport} (hd : s.calm h d r) (x : TunerId) (new : Tuner)
    (cause : ChangeCause) : (s.changeTuner x new cause).calm h d r := by
  unfold State.changeTuner
  have h1 : ((s.setTuner x { new with changeLatch := true }).offer
      (.tunerChange x new.condition new.faultLatch new.tuned cause)).calm h d r :=
    hd.of_book (by simp [hd.1]) (by simp) (by simp [hd.2.2.2])
  have rec_ne : ∀ (u : State) (p : Booking → Bool) (b : Booking), u.calm h d r →
      b ∈ u.book.records.filter (fun b => b.state == .recording && p b) → b.handle ≠ h := by
    intro u p b hu hb
    obtain ⟨hm, hp⟩ := List.mem_filter.mp hb
    simp only [Bool.and_eq_true, beq_iff_eq] at hp
    exact hu.ne hm hp.1
  dsimp only
  repeat' split
  · unfold State.gapsBegin
    refine State.calm.foldl (p := fun b : Booking => b.handle ≠ h) (fun _ _ hb hs => hs.beginGap hb) (fun b hb => ?_) h1
    simp only [Bool.and_assoc] at hb
    exact rec_ne _ (fun b => b.placement.tuner? == some x && !b.items.inGap) b h1 hb
  · unfold State.gapsEnd
    refine State.calm.foldl (p := fun b : Booking => b.handle ≠ h) (fun _ _ hb hs => hs.endGapOfTuner hb) (fun b hb => ?_) h1
    simp only [Bool.and_assoc] at hb
    exact rec_ne _ (fun b => b.placement.tuner? == some x && b.items.inGap) b h1 hb
  · exact h1

theorem State.calm.evaluateUse {s : State} {h : Nat} {d : Booking} {r : BookingReport} (hd : s.calm h d r) (x : TunerId) : (s.evaluateUse x).calm h d r := by
  unfold State.evaluateUse State.comeIntoUse State.goOutOfUse
  repeat' split
  all_goals first
    | exact hd
    | exact hd.changeTuner _ _ _

theorem State.calm.evaluateTuners {s : State} {h : Nat} {d : Booking} {r : BookingReport} (hd : s.calm h d r) : s.evaluateTuners.calm h d r :=
  (hd.evaluateUse .a).evaluateUse .b

theorem State.calm.arrive {s : State} {h : Nat} {d : Booking} {r : BookingReport} (hd : s.calm h d r) (x : TunerId) (mux : Nat) :
    (s.arrive x mux).calm h d r := by
  unfold State.arrive
  dsimp only
  repeat' split
  all_goals first
    | exact hd
    | exact hd.changeTuner _ _ _
    | exact hd.of_book (by simp [hd.1]) (by simp) (by simp [hd.2.2.2])

theorem State.calm.bookingArrives {s : State} {h : Nat} {d : Booking} {r : BookingReport} (hd : s.calm h d r) (k : Nat) : (s.bookingArrives k).calm h d r := by
  unfold State.bookingArrives
  repeat' split
  all_goals first
    | exact hd
    | exact hd.evaluateTuners
    | exact (hd.arrive _ _).evaluateTuners

/-! ## Finishing -/

/-- What the notice of a finish says: the outcome, and for Missed (Clash) the causes of the last placement (R51, R52). -/
def Booking.lastWord (b : Booking) (v : Verdict) : BookingReport :=
  ⟨.finished, .none, some v, if v = ⟨.missed, .clash⟩ then b.placement.causes else .none⟩

/-- The record of a booking that finishes, and its notice (R47, R51). -/
theorem State.finishCore_done {s : State} (hs : s.tablesHold) {h : Nat} {b : Booking} (hb : s.booking? h = some b) (v : Verdict)
    (u : Bool) : (s.finishCore h v u).done h (b.finished v u s.now) (b.lastWord v) := by
  unfold State.finishCore
  rw [hb]
  dsimp only
  have hh : (b.finished v u s.now).handle = h := by simpa using State.booking_handle hb
  have h1 : (s.modBooking h fun _ => b.finished v u s.now).tablesHold := State.modBooking_const_tables hs h _ hh
  have h2 : ((s.modBooking h fun _ => b.finished v u s.now).offer (.bookingState h (b.lastWord v))).done h (b.finished v u s.now)
      (b.lastWord v) :=
    ⟨by simp [h1], by
      rw [State.booking_of_book (State.offer_book _ _)]
      exact State.modBooking_booking_eq hb (fun _ _ => hh), rfl, State.offer_tells _ _ _⟩
  refine State.done.retryStarved ?_
  have h3 := State.bookingChanged_tellsOf h2.2.2.2 h
  exact State.done.of_book h2
    (State.keepHistory_tables (State.leaveAbandon_tables (State.removeOrder_tables (State.bookingChanged_tables h2.1 _) _) _) _ _)
    (by simp) (State.keepHistory_tellsOf (State.leaveAbandon_tellsOf (State.removeOrder_tellsOf h3 _) _) _ _)

theorem State.finish_done {s : State} (hs : s.tablesHold) {h : Nat} {b : Booking} (hb : s.booking? h = some b) (v : Verdict)
    (u : Bool) : (s.finish h v u).done h (b.finished v u s.now) (b.lastWord v) :=
  (State.finishCore_done hs hb v u).evaluateTuners

theorem State.finishByOutcome_done {s : State} (hs : s.tablesHold) {h : Nat} {b : Booking} (hb : s.booking? h = some b) (r : Reason)
    (u : Bool) : (s.finishByOutcome h r u).done h (b.finished (b.outcome r) u s.now) (b.lastWord (b.outcome r)) := by
  unfold State.finishByOutcome
  rw [hb]
  exact State.finish_done hs hb _ u

end Sys2Proof.Machine
end

