-- ==== Sys2Proof/Laws/Asked.lean ====
section
/-! SUPPORT. A pass trigger once given stands until the end of the command (R86; log 4): every shared operation keeps it. -/

namespace Sys2Proof.Machine

/-- A pass trigger was given by the command in hand. -/
def State.asked (s : State) : Prop := s.planner.triggered = true

@[simp] theorem State.setTime_asked {s : State} (ht : s.asked) (x : TimeBase) : (s.setTime x).asked := ht
@[simp] theorem State.setCatalogue_asked {s : State} (ht : s.asked) (x : Catalogue) : (s.setCatalogue x).asked := ht
@[simp] theorem State.setGuide_asked {s : State} (ht : s.asked) (x : List Event) : (s.setGuide x).asked := ht
@[simp] theorem State.setLinks_asked {s : State} (ht : s.asked) (x : List Link) : (s.setLinks x).asked := ht
@[simp] theorem State.setBook_asked {s : State} (ht : s.asked) (x : BookingTable) : (s.setBook x).asked := ht
@[simp] theorem State.setOrders_asked {s : State} (ht : s.asked) (x : OrderUnit) : (s.setOrders x).asked := ht
@[simp] theorem State.setNotices_asked {s : State} (ht : s.asked) (x : NoticeQueue) : (s.setNotices x).asked := ht
@[simp] theorem State.setMonitor_asked {s : State} (ht : s.asked) (x : TunerMonitor) : (s.setMonitor x).asked := ht
@[simp] theorem State.setWake_asked {s : State} (ht : s.asked) (x : WakeUnit) : (s.setWake x).asked := ht
@[simp] theorem State.setStorage_asked {s : State} (ht : s.asked) (x : Estimator) : (s.setStorage x).asked := ht
@[simp] theorem State.setLink_asked {s : State} (ht : s.asked) (x : LinkInterface) : (s.setLink x).asked := ht
@[simp] theorem State.setLines_asked {s : State} (ht : s.asked) (x : Lines) : (s.setLines x).asked := ht
@[simp] theorem State.setPending_asked {s : State} (ht : s.asked) (x : List Instr) : (s.setPending x).asked := ht

@[simp] theorem State.trigger_asked (s : State) : s.trigger.asked := rfl
@[simp] theorem State.bookingChanged_asked (s : State) (h : Nat) : (s.bookingChanged h).asked := rfl
@[simp] theorem State.liveClaimChanged_asked (s : State) : s.liveClaimChanged.asked := by
  unfold State.liveClaimChanged
  split <;> rfl
@[simp] theorem State.offer_asked {s : State} (ht : s.asked) (body : NoticeBody) : (s.offer body).asked := ht
@[simp] theorem State.modBooking_asked {s : State} (ht : s.asked) (h : Nat) (f : Booking → Booking) : (s.modBooking h f).asked := ht

@[simp] theorem ite_asked {c : Prop} [Decidable c] {s t : State} (hs : s.asked) (ht : t.asked) : (if c then s else t).asked := by
  split
  · exact hs
  · exact ht

theorem foldl_asked {α : Type} (f : State → α → State) (hf : ∀ s a, s.asked → (f s a).asked) (l : List α) {s : State}
    (ht : s.asked) : (l.foldl f s).asked := by
  induction l generalizing s with
  | nil => exact ht
  | cons a l ih => exact ih (hf s a ht)

theorem foldl_matched_asked {α : Type} (f : Matched → α → Matched) (hf : ∀ m a, m.state.asked → (f m a).state.asked)
    (l : List α) {m : Matched} (ht : m.state.asked) : (l.foldl f m).state.asked := by
  induction l generalizing m with
  | nil => exact ht
  | cons a l ih => exact ih (hf m a ht)

@[simp] theorem State.modItems_asked {s : State} (ht : s.asked) (h : Nat) (f : OrderItems → OrderItems) : (s.modItems h f).asked := by
  unfold State.modItems
  repeat' split
  all_goals first
    | exact ht
    | simp (maxDischargeDepth := 40) [ht]
@[simp] theorem State.markChanged_asked {s : State} (ht : s.asked) (h : Nat) : (s.markChanged h).asked := by
  unfold State.markChanged
  split
  · exact ht
  · exact ht
@[simp] theorem State.leavesPlan_asked {s : State} (ht : s.asked) (h : Nat) : (s.leavesPlan h).asked := by
  unfold State.leavesPlan
  repeat' split
  all_goals first
    | exact ht
    | simp (maxDischargeDepth := 40) [ht]
@[simp] theorem State.opensInPass_asked {s : State} (ht : s.asked)  : (s.opensInPass).asked := by
  unfold State.opensInPass
  repeat' split
  all_goals first
    | exact ht
    | simp (maxDischargeDepth := 40) [ht]
@[simp] theorem State.noteState_asked {s : State} (ht : s.asked) (h : Nat) : (s.noteState h).asked := by
  unfold State.noteState
  repeat' split
  all_goals first
    | exact ht
    | simp (maxDischargeDepth := 40) [ht]
@[simp] theorem State.evaluateWake_asked {s : State} (ht : s.asked)  : (s.evaluateWake).asked := by
  unfold State.evaluateWake
  repeat' split
  all_goals first
    | exact ht
    | simp (maxDischargeDepth := 40) [ht]
@[simp] theorem State.afterRemoval_asked {s : State} (ht : s.asked) (old : Option Order) : (s.afterRemoval old).asked := by
  unfold State.afterRemoval
  repeat' split
  all_goals first
    | exact ht
    | simp (maxDischargeDepth := 40) [ht]
@[simp] theorem State.setOrderList_asked {s : State} (ht : s.asked) (orders : List Order) : (s.setOrderList orders).asked := ht
@[simp] theorem State.issue_asked {s : State} (ht : s.asked) (kind : OrderKind) (h : Nat) (tuner : Option TunerId) (attempt : Nat) (onRunning : Bool) : (s.issue kind h tuner attempt onRunning).asked := by
  unfold State.issue
  repeat' split
  all_goals first
    | exact ht
    | simp (maxDischargeDepth := 40) [ht]
@[simp] theorem State.removeOrder_asked {s : State} (ht : s.asked) (h : Nat) : (s.removeOrder h).asked := by
  unfold State.removeOrder
  repeat' split
  all_goals first
    | exact ht
    | simp (maxDischargeDepth := 40) [ht]
@[simp] theorem State.stop_asked {s : State} (ht : s.asked) (h : Nat) (cause : StopCause) (truncated : Bool) : (s.stop h cause truncated).asked := by
  unfold State.stop
  repeat' split
  all_goals first
    | exact ht
    | simp (maxDischargeDepth := 40) [ht]
@[simp] theorem State.takeFromAlternatives_asked {s : State} (ht : s.asked) (ref : EventRef) : (s.takeFromAlternatives ref).asked := by
  unfold State.takeFromAlternatives
  refine foldl_asked _ (fun s a ht => ?_) _ ht
  simp (maxDischargeDepth := 40) [ht]
theorem State.create_asked {s t : State} {make : Nat → Booking} {h : Nat} (hc : s.create make = some (h, t)) : t.asked := by
  unfold State.create at hc
  split at hc
  · simp only [Option.some.injEq, Prod.mk.injEq] at hc
    rw [← hc.2]
    rfl
  · simp at hc

@[simp] theorem State.modLink_asked {s : State} (ht : s.asked) (index : Nat) (f : Link → Link) : (s.modLink index f).asked := by
  unfold State.modLink
  repeat' split
  all_goals first
    | exact ht
    | simp (maxDischargeDepth := 40) [ht]
@[simp] theorem State.starve_asked {s : State} (ht : s.asked) (index : Nat) : (s.starve index).asked := by
  unfold State.starve
  repeat' split
  all_goals first
    | exact ht
    | simp (maxDischargeDepth := 40) [ht]
@[simp] theorem State.settleStarved_asked {s : State} (ht : s.asked) (index : Nat) (refused : Bool) : (s.settleStarved index refused).asked := by
  unfold State.settleStarved
  repeat' split
  all_goals first
    | exact ht
    | simp (maxDischargeDepth := 40) [ht]
@[simp] theorem State.createOnEvent_asked {s : State} (ht : s.asked) (l : Link) (e : Event) : ((s.createOnEvent l e).state).asked := by
  unfold State.createOnEvent
  repeat' split
  all_goals first
    | exact ht
    | (simp (maxDischargeDepth := 40) [ht]; done)
    | (rename_i hc
       have ht' := State.create_asked hc
       simp (maxDischargeDepth := 40) [ht'])
@[simp] theorem State.addAlternative_asked {s : State} (ht : s.asked) (b : Booking) (e : Event) : (s.addAlternative b e).asked := by
  unfold State.addAlternative
  repeat' split
  all_goals first
    | exact ht
    | simp (maxDischargeDepth := 40) [ht]
@[simp] theorem State.switchAiring_asked {s : State} (ht : s.asked) (b : Booking) (e : Event) : (s.switchAiring b e).asked := by
  unfold State.switchAiring
  repeat' split
  all_goals first
    | exact ht
    | simp (maxDischargeDepth := 40) [ht]
@[simp] theorem State.matchEpisode_asked {s : State} (ht : s.asked) (l : Link) (e : Event) (key : Nat) (history : List Nat) : ((s.matchEpisode l e key history).state).asked := by
  unfold State.matchEpisode
  repeat' split
  all_goals first
    | exact ht
    | simp (maxDischargeDepth := 40) [ht]
@[simp] theorem State.matchOne_asked {s : State} (ht : s.asked) (index : Nat) (e : Event) : ((s.matchOne index e).state).asked := by
  unfold State.matchOne
  repeat' split
  all_goals first
    | exact ht
    | simp (maxDischargeDepth := 40) [ht]
@[simp] theorem State.matchAll_asked {s : State} (ht : s.asked) (index : Nat) (events : List Event) : ((s.matchAll index events).state).asked := by
  unfold State.matchAll
  exact foldl_matched_asked _ (fun _ _ ht => by simp [ht]) _ ht
@[simp] theorem State.fullMatch_asked {s : State} (ht : s.asked) (index : Nat) : ((s.fullMatch index).state).asked := by
  unfold State.fullMatch
  repeat' split
  all_goals first
    | exact ht
    | simp (maxDischargeDepth := 40) [ht]
@[simp] theorem State.modOccurrences_asked {s : State} (ht : s.asked) (index : Nat) (f : List Occurrence → List Occurrence) : (s.modOccurrences index f).asked := by
  unfold State.modOccurrences
  repeat' split
  all_goals first
    | exact ht
    | simp (maxDischargeDepth := 40) [ht]
@[simp] theorem State.bookDay_asked {s : State} (ht : s.asked) (l : Link) (service : Nat) (weekdays : BitVec 7) (minute duration : Nat) (day : Int) : ((s.bookDay l service weekdays minute duration day).state).asked := by
  unfold State.bookDay
  repeat' split
  all_goals first
    | exact ht
    | (simp (maxDischargeDepth := 40) [ht]; done)
    | (rename_i hc
       have ht' := State.create_asked hc
       simp (maxDischargeDepth := 40) [ht'])
@[simp] theorem State.retimeEntry_asked {s : State} (ht : s.asked) (l : Link) (minute duration : Nat) (o : Occurrence) : (s.retimeEntry l minute duration o).asked := by
  unfold State.retimeEntry
  repeat' split
  all_goals first
    | exact ht
    | simp (maxDischargeDepth := 40) [ht]
@[simp] theorem State.instantiate_asked {s : State} (ht : s.asked) (index : Nat) (retime : Bool) : ((s.instantiate index retime).state).asked := by
  unfold State.instantiate
  repeat' split
  all_goals first
    | exact ht
    | (dsimp only
       refine State.settleStarved_asked (foldl_matched_asked _ (fun _ _ ht => by simp [ht]) _ ?_) _ _
       first
         | exact foldl_asked _ (fun _ _ ht => by simp [ht]) _ (by simp [ht])
         | simp [ht])
@[simp] theorem State.instantiateAll_asked {s : State} (ht : s.asked) (retime : Bool) : (s.instantiateAll retime).asked := by
  unfold State.instantiateAll
  refine foldl_asked _ (fun s a ht => ?_) _ ht
  simp (maxDischargeDepth := 40) [ht]
@[simp] theorem State.retry_asked {s : State} (ht : s.asked) (index : Nat) : (s.retry index).asked := by
  unfold State.retry
  repeat' split
  all_goals first
    | exact ht
    | simp (maxDischargeDepth := 40) [ht]
@[simp] theorem State.retryStarved_asked {s : State} (ht : s.asked)  : (s.retryStarved).asked := by
  unfold State.retryStarved
  refine foldl_asked _ (fun s a ht => ?_) _ ht
  simp (maxDischargeDepth := 40) [ht]
@[simp] theorem State.matchBatch_asked {s : State} (ht : s.asked) (events : List Event) : (s.matchBatch events).asked := by
  unfold State.matchBatch
  exact foldl_asked _ (fun _ _ ht => by simp [ht]) _
    (foldl_asked _ (fun _ _ ht => foldl_asked _ (fun _ _ ht => by simp [ht]) _ ht) _ ht)
@[simp] theorem State.keepHistory_asked {s : State} (ht : s.asked) (b : Booking) (v : Verdict) : (s.keepHistory b v).asked := by
  unfold State.keepHistory
  repeat' split
  all_goals first
    | exact ht
    | simp (maxDischargeDepth := 40) [ht]
@[simp] theorem State.setTuner_asked {s : State} (ht : s.asked) (x : TunerId) (t : Tuner) : (s.setTuner x t).asked := by
  unfold State.setTuner
  repeat' split
  all_goals first
    | exact ht
    | simp (maxDischargeDepth := 40) [ht]
@[simp] theorem State.beginGap_asked {s : State} (ht : s.asked) (h : Nat) : (s.beginGap h).asked := by
  unfold State.beginGap
  repeat' split
  all_goals first
    | exact ht
    | simp (maxDischargeDepth := 40) [ht]
@[simp] theorem State.endGap_asked {s : State} (ht : s.asked) (h : Nat) : (s.endGap h).asked := by
  unfold State.endGap
  repeat' split
  all_goals first
    | exact ht
    | simp (maxDischargeDepth := 40) [ht]
@[simp] theorem State.endGapOfTuner_asked {s : State} (ht : s.asked) (h : Nat) : (s.endGapOfTuner h).asked := by
  unfold State.endGapOfTuner
  repeat' split
  all_goals first
    | exact ht
    | simp (maxDischargeDepth := 40) [ht]
@[simp] theorem State.gapsBegin_asked {s : State} (ht : s.asked) (x : TunerId) : (s.gapsBegin x).asked := by
  unfold State.gapsBegin
  refine foldl_asked _ (fun s a ht => ?_) _ ht
  simp (maxDischargeDepth := 40) [ht]
@[simp] theorem State.gapsEnd_asked {s : State} (ht : s.asked) (x : TunerId) : (s.gapsEnd x).asked := by
  unfold State.gapsEnd
  refine foldl_asked _ (fun s a ht => ?_) _ ht
  simp (maxDischargeDepth := 40) [ht]
@[simp] theorem State.changeTuner_asked {s : State} (ht : s.asked) (x : TunerId) (new : Tuner) (cause : ChangeCause) : (s.changeTuner x new cause).asked := by
  unfold State.changeTuner
  repeat' split
  all_goals first
    | exact ht
    | simp (maxDischargeDepth := 40) [ht]
@[simp] theorem State.comeIntoUse_asked {s : State} (ht : s.asked) (x : TunerId) : (s.comeIntoUse x).asked := by
  unfold State.comeIntoUse
  repeat' split
  all_goals first
    | exact ht
    | simp (maxDischargeDepth := 40) [ht]
@[simp] theorem State.goOutOfUse_asked {s : State} (ht : s.asked) (x : TunerId) : (s.goOutOfUse x).asked := by
  unfold State.goOutOfUse
  repeat' split
  all_goals first
    | exact ht
    | simp (maxDischargeDepth := 40) [ht]
@[simp] theorem State.evaluateUse_asked {s : State} (ht : s.asked) (x : TunerId) : (s.evaluateUse x).asked := by
  unfold State.evaluateUse
  repeat' split
  all_goals first
    | exact ht
    | simp (maxDischargeDepth := 40) [ht]
@[simp] theorem State.evaluateTuners_asked {s : State} (ht : s.asked)  : (s.evaluateTuners).asked := by
  unfold State.evaluateTuners
  repeat' split
  all_goals first
    | exact ht
    | simp (maxDischargeDepth := 40) [ht]
@[simp] theorem State.arrive_asked {s : State} (ht : s.asked) (x : TunerId) (mux : Nat) : (s.arrive x mux).asked := by
  unfold State.arrive
  repeat' split
  all_goals first
    | exact ht
    | simp (maxDischargeDepth := 40) [ht]
@[simp] theorem State.bookingArrives_asked {s : State} (ht : s.asked) (h : Nat) : (s.bookingArrives h).asked := by
  unfold State.bookingArrives
  repeat' split
  all_goals first
    | exact ht
    | simp (maxDischargeDepth := 40) [ht]
@[simp] theorem State.setLatch_asked {s : State} (ht : s.asked) (x : TunerId) : (s.setLatch x).asked := by
  unfold State.setLatch
  repeat' split
  all_goals first
    | exact ht
    | simp (maxDischargeDepth := 40) [ht]
@[simp] theorem State.faultRises_asked {s : State} (ht : s.asked) (x : TunerId) : (s.faultRises x).asked := by
  unfold State.faultRises
  repeat' split
  all_goals first
    | exact ht
    | simp (maxDischargeDepth := 40) [ht]
@[simp] theorem State.leaveAbandon_asked {s : State} (ht : s.asked) (h : Nat) : (s.leaveAbandon h).asked := by
  unfold State.leaveAbandon
  repeat' split
  all_goals first
    | exact ht
    | simp (maxDischargeDepth := 40) [ht]
@[simp] theorem State.finishCore_asked {s : State} (ht : s.asked) (h : Nat) (v : Verdict) (unconfirmed : Bool) : (s.finishCore h v unconfirmed).asked := by
  unfold State.finishCore
  repeat' split
  all_goals first
    | exact ht
    | simp (maxDischargeDepth := 40) [ht]
/-- A finish is a pass trigger (R47, R85). -/
theorem State.finishCore_asks {s : State} {h : Nat} {b : Booking} (hb : s.booking? h = some b) (v : Verdict) (u : Bool) :
    (s.finishCore h v u).asked := by
  unfold State.finishCore
  rw [hb]
  simp (maxDischargeDepth := 40)

@[simp] theorem State.finish_asked {s : State} (ht : s.asked) (h : Nat) (v : Verdict) (unconfirmed : Bool) : (s.finish h v unconfirmed).asked := by
  unfold State.finish
  repeat' split
  all_goals first
    | exact ht
    | simp (maxDischargeDepth := 40) [ht]
@[simp] theorem State.finishByOutcome_asked {s : State} (ht : s.asked) (h : Nat) (reason : Reason) (unconfirmed : Bool) : (s.finishByOutcome h reason unconfirmed).asked := by
  unfold State.finishByOutcome
  repeat' split
  all_goals first
    | exact ht
    | simp (maxDischargeDepth := 40) [ht]
theorem State.finish_asks {s : State} {h : Nat} {b : Booking} (hb : s.booking? h = some b) (v : Verdict) (u : Bool) :
    (s.finish h v u).asked := State.evaluateTuners_asked (State.finishCore_asks hb v u)

theorem State.finishByOutcome_asks {s : State} {h : Nat} {b : Booking} (hb : s.booking? h = some b) (r : Reason) (u : Bool) :
    (s.finishByOutcome h r u).asked := by
  unfold State.finishByOutcome
  rw [hb]
  exact State.finish_asks hb _ u

@[simp] theorem State.removeRecords_asked {s : State} (ht : s.asked) (old : Booking → Bool) : (s.removeRecords old).asked := by
  unfold State.removeRecords
  repeat' split
  all_goals first
    | exact ht
    | simp (maxDischargeDepth := 40) [ht]
@[simp] theorem State.enterDue_asked {s : State} (ht : s.asked) (h : Nat) (onRunning resumed : Bool) : (s.enterDue h onRunning resumed).asked := by
  unfold State.enterDue
  repeat' split
  all_goals first
    | exact ht
    | simp (maxDischargeDepth := 40) [ht]
@[simp] theorem State.openBooking_asked {s : State} (ht : s.asked) (h : Nat) (resumed : Bool) : (s.openBooking h resumed).asked := by
  unfold State.openBooking
  repeat' split
  all_goals first
    | exact ht
    | simp (maxDischargeDepth := 40) [ht]
@[simp] theorem State.testOpening_asked {s : State} (ht : s.asked) (h : Nat) : (s.testOpening h).asked := by
  unfold State.testOpening
  repeat' split
  all_goals first
    | exact ht
    | simp (maxDischargeDepth := 40) [ht]
@[simp] theorem State.backToPending_asked {s : State} (ht : s.asked) (h : Nat) : (s.backToPending h).asked := by
  unfold State.backToPending
  repeat' split
  all_goals first
    | exact ht
    | simp (maxDischargeDepth := 40) [ht]
@[simp] theorem State.endRule_asked {s : State} (ht : s.asked) (h : Nat) : (s.endRule h).asked := by
  unfold State.endRule
  repeat' split
  all_goals first
    | exact ht
    | simp (maxDischargeDepth := 40) [ht]
@[simp] theorem State.endRuleUnlessOpen_asked {s : State} (ht : s.asked) (h : Nat) : (s.endRuleUnlessOpen h).asked := by
  unfold State.endRuleUnlessOpen
  repeat' split
  all_goals first
    | exact ht
    | simp (maxDischargeDepth := 40) [ht]
@[simp] theorem State.notRunningStops_asked {s : State} (ht : s.asked) (h : Nat) : (s.notRunningStops h).asked := by
  unfold State.notRunningStops
  repeat' split
  all_goals first
    | exact ht
    | simp (maxDischargeDepth := 40) [ht]
@[simp] theorem State.takeEffect_asked {s : State} (ht : s.asked) (b : Booking) (status : RunStatus) : (s.takeEffect b status).asked := by
  unfold State.takeEffect
  repeat' split
  all_goals first
    | exact ht
    | simp (maxDischargeDepth := 40) [ht]
@[simp] theorem State.completeHold_asked {s : State} (ht : s.asked) (h : Nat) : (s.completeHold h).asked := by
  unfold State.completeHold
  repeat' split
  all_goals first
    | exact ht
    | simp (maxDischargeDepth := 40) [ht]
@[simp] theorem State.slackRule_asked {s : State} (ht : s.asked) (h : Nat) : (s.slackRule h).asked := by
  unfold State.slackRule
  repeat' split
  all_goals first
    | exact ht
    | simp (maxDischargeDepth := 40) [ht]

end Sys2Proof.Machine
end

