-- ==== Sys2Proof/Laws/Conflict.lean ====
section
/-! SUPPORT. The conflict test: what testing a window at its start and at the edges inside it says about the whole window: free,
first conflict instant, kinds met, end of the last run of conflict. -/

namespace Sys2Proof.Machine

/-- An occupancy carries alike at two instants between which it neither starts nor ends. -/
theorem Occupancy.carries_of_no_edge_between {o : Occupancy} {u t : Nat} (hut : u ≤ t) (h1 : ¬ (u < o.start ∧ o.start ≤ t)) (h2 : ∀ e, o.stop = some e → ¬ (u < e ∧ e ≤ t)) :
    o.carries u = o.carries t := by
  unfold Occupancy.carries
  cases ho : o.stop with
  | none => simp; omega
  | some e =>
    have := h2 e ho
    by_cases a : o.start ≤ u <;> by_cases b : u < e <;> by_cases c : o.start ≤ t <;> by_cases d : t < e <;> simp [a, b, c, d] <;> omega

/-- The kinds of conflict are alike at two instants between which no laid occupancy starts or ends. -/
theorem Ground.kindsAt_of_no_edge_between {g : Ground} {u t : Nat} (hut : u ≤ t) (h : ∀ x ∈ g.edges, ¬ (u < x ∧ x ≤ t)) (x : TunerId) (r : Bool) (m : Nat) :
    g.kindsAt x r m u = g.kindsAt x r m t := by
  have hc : ∀ o ∈ g.laid, o.carries u = o.carries t := by
    intro o ho
    apply Occupancy.carries_of_no_edge_between hut
    · apply h; simp only [Ground.edges, List.mem_flatMap]; exact ⟨o, ho, by simp⟩
    · intro e he; apply h; simp only [Ground.edges, List.mem_flatMap]; exact ⟨o, ho, by simp [he]⟩
  have hf : ∀ y : TunerId, (g.laid.filter fun o => o.tuner == y && o.carries u) = g.laid.filter fun o => o.tuner == y && o.carries t := by
    intro y
    apply List.filter_congr
    intro o ho
    rw [hc o ho]
  unfold Ground.kindsAt
  simp only [hf]

/-- Sorting neither adds nor drops an instant. -/
theorem mem_ascending (x : Nat) (l : List Nat) : x ∈ ascending l ↔ x ∈ l := by
  unfold ascending
  induction l with
  | nil => simp
  | cons a l ih =>
    rw [List.foldr_cons]
    split
    · rename_i h
      rw [ih, List.mem_cons]
      refine ⟨Or.inr, fun hx => hx.elim (fun hx => ?_) id⟩
      subst hx
      exact ih.mp (List.contains_iff_mem.mp h)
    · rw [mem_insertBy_iff, ih]; simp

/-- The last tested instant at or before a given one. -/
theorem exists_latest_edge (l : List Nat) (s t : Nat) (h : s ≤ t) : ∃ u, (u = s ∨ (u ∈ l ∧ s < u)) ∧ u ≤ t ∧ ∀ x ∈ l, ¬ (u < x ∧ x ≤ t) := by
  induction l with
  | nil => exact ⟨s, Or.inl rfl, h, by simp⟩
  | cons a l ih =>
    obtain ⟨u, h1, h2, h3⟩ := ih
    by_cases ha : u < a ∧ a ≤ t
    · refine ⟨a, Or.inr ⟨by simp, ?_⟩, ha.2, ?_⟩
      · rcases h1 with rfl | ⟨_, h⟩ <;> omega
      · intro x hx
        rcases List.mem_cons.mp hx with rfl | hx
        · omega
        · have := h3 x hx; omega
    · refine ⟨u, ?_, h2, ?_⟩
      · rcases h1 with h | ⟨h, h'⟩
        · exact Or.inl h
        · exact Or.inr ⟨by simp [h], h'⟩
      · intro x hx
        rcases List.mem_cons.mp hx with rfl | hx
        · exact ha
        · exact h3 x hx

/-- Inserting keeps an ascending list ascending. -/
theorem insertBy_pairwise_le {x : Nat} : ∀ {l : List Nat}, l.Pairwise (· ≤ ·) → (insertBy (fun a b => decide (a ≤ b)) x l).Pairwise (· ≤ ·)
  | [], _ => by simp [insertBy]
  | a :: l, h => by
    unfold insertBy
    rw [List.pairwise_cons] at h
    split
    · rename_i hx
      simp only [decide_eq_true_eq] at hx
      rw [List.pairwise_cons, List.pairwise_cons]
      refine ⟨?_, h⟩
      intro b hb
      rcases List.mem_cons.mp hb with rfl | hb
      · exact hx
      · exact Nat.le_trans hx (h.1 b hb)
    · rename_i hx
      simp only [decide_eq_true_eq, Nat.not_le] at hx
      rw [List.pairwise_cons]
      refine ⟨?_, insertBy_pairwise_le h.2⟩
      intro b hb
      rcases (mem_insertBy_iff ..).mp hb with rfl | hb
      · omega
      · exact h.1 b hb

/-- Sorted instants are in ascending order. -/
theorem ascending_pairwise (l : List Nat) : (ascending l).Pairwise (· ≤ ·) := by
  unfold ascending
  induction l with
  | nil => simp
  | cons a l ih =>
    rw [List.foldr_cons]
    split
    · exact ih
    · exact insertBy_pairwise_le ih

/-- The tested instants are the window's start and the edges inside the window. -/
theorem Ground.mem_instants_iff {g : Ground} {a : Nat} {e : Option Nat} {u : Nat} :
    u ∈ g.instants a e ↔ beforeEnd u e = true ∧ (u = a ∨ (u ∈ g.edges ∧ a < u)) := by
  unfold Ground.instants
  split
  · rename_i hb
    rw [mem_ascending, List.mem_cons, List.mem_filter]
    constructor
    · rintro (rfl | ⟨h1, h2⟩)
      · exact ⟨hb, Or.inl rfl⟩
      · simp only [Bool.and_eq_true, decide_eq_true_eq] at h2
        exact ⟨h2.2, Or.inr ⟨h1, h2.1⟩⟩
    · rintro ⟨h, rfl | ⟨h1, h2⟩⟩
      · exact Or.inl rfl
      · exact Or.inr ⟨h1, by simp [h, h2]⟩
  · rename_i hb
    constructor
    · intro h; cases h
    · rintro ⟨h, h'⟩
      exfalso
      apply hb
      cases e with
      | none => rfl
      | some e =>
        simp only [beforeEnd, decide_eq_true_eq] at h ⊢
        rcases h' with rfl | ⟨_, h'⟩ <;> omega

theorem Ground.instants_pairwise (g : Ground) (a : Nat) (e : Option Nat) : (g.instants a e).Pairwise (· ≤ ·) := by
  unfold Ground.instants
  split
  · exact ascending_pairwise _
  · exact List.Pairwise.nil

theorem beforeEnd_of_le {u t : Nat} {e : Option Nat} (h : u ≤ t) (ht : beforeEnd t e = true) : beforeEnd u e = true := by
  cases e with
  | none => rfl
  | some e => simp only [beforeEnd, decide_eq_true_eq] at ht ⊢; omega

/-- Every instant of a window is alike to the last tested instant at or before it. -/
theorem Ground.exists_instant (g : Ground) {a t : Nat} {e : Option Nat} (h : a ≤ t) (ht : beforeEnd t e = true) :
    ∃ u ∈ g.instants a e, a ≤ u ∧ u ≤ t ∧ ∀ x r m, g.kindsAt x r m u = g.kindsAt x r m t := by
  obtain ⟨u, hu, hut, hl⟩ := exists_latest_edge g.edges a t h
  refine ⟨u, Ground.mem_instants_iff.mpr ⟨beforeEnd_of_le hut ht, hu⟩, ?_, hut, fun x r m => kindsAt_of_no_edge_between hut hl x r m⟩
  rcases hu with rfl | ⟨_, h⟩ <;> omega

/-- No conflict instant: no instant of the window has a conflict (R93). -/
theorem Ground.firstConflict_eq_none_iff {g : Ground} {x : TunerId} {r : Bool} {m a : Nat} {e : Option Nat} :
    g.firstConflict x r m a e = none ↔ ∀ t, a ≤ t → beforeEnd t e = true → (g.kindsAt x r m t).any = false := by
  unfold Ground.firstConflict
  rw [List.find?_eq_none]
  constructor
  · intro h t h1 h2
    obtain ⟨u, hu, _, _, hk⟩ := g.exists_instant h1 h2
    have := h u hu
    rw [hk] at this
    simpa using this
  · intro h u hu
    obtain ⟨h1, h2⟩ := Ground.mem_instants_iff.mp hu
    have : a ≤ u := by rcases h2 with rfl | ⟨_, h2⟩ <;> omega
    simp [h u this h1]

/-- The first conflict instant: it lies in the window, has a conflict, and no instant of the window before it has one (R93). -/
theorem Ground.firstConflict_eq_some_iff {g : Ground} {x : TunerId} {r : Bool} {m a c : Nat} {e : Option Nat} :
    g.firstConflict x r m a e = some c ↔ a ≤ c ∧ beforeEnd c e = true ∧ (g.kindsAt x r m c).any = true ∧
      ∀ t, a ≤ t → t < c → (g.kindsAt x r m t).any = false := by
  have key : ∀ d, g.firstConflict x r m a e = some d → a ≤ d ∧ beforeEnd d e = true ∧ (g.kindsAt x r m d).any = true ∧
      ∀ t, a ≤ t → t < d → (g.kindsAt x r m t).any = false := by
    intro d hd
    unfold Ground.firstConflict at hd
    obtain ⟨hp, as, bs, hl, hn⟩ := List.find?_eq_some_iff_append.mp hd
    have hmem : d ∈ g.instants a e := by rw [hl]; simp
    obtain ⟨h1, h2⟩ := Ground.mem_instants_iff.mp hmem
    refine ⟨by rcases h2 with rfl | ⟨_, h2⟩ <;> omega, h1, hp, ?_⟩
    intro t ht htd
    obtain ⟨u, hu, _, hut, hk⟩ := g.exists_instant ht (beforeEnd_of_le (Nat.le_of_lt htd) h1)
    rw [← hk]
    have hsort := g.instants_pairwise a e
    rw [hl] at hu hsort
    rcases List.mem_append.mp hu with hu | hu
    · simpa using hn u hu
    · exfalso
      have hle : d ≤ u := by
        rcases List.mem_cons.mp hu with rfl | hu
        · exact Nat.le_refl _
        · exact (List.pairwise_cons.mp (List.pairwise_append.mp hsort).2.1).1 u hu
      omega
  constructor
  · exact key c
  · rintro ⟨h1, h2, h3, h4⟩
    cases hf : g.firstConflict x r m a e with
    | none => simp [Ground.firstConflict_eq_none_iff.mp hf c h1 h2] at h3
    | some d =>
      obtain ⟨k1, k2, k3, k4⟩ := key d hf
      rcases Nat.lt_trichotomy c d with h | h | h
      · simp [k4 c h1 h] at h3
      · rw [h]
      · simp [h4 d k1 h] at k3

/-- The causes a list of sets leads to: a kind is there exactly when the first or one of the sets has it. -/
theorem foldl_union_kind (kind : Causes → Bool) (hk : ∀ x y, kind (Causes.union x y) = (kind x || kind y)) (f : Nat → Causes) :
    ∀ (l : List Nat) (c : Causes), kind (l.foldl (fun c t => c.union (f t)) c) = true ↔ kind c = true ∨ ∃ t ∈ l, kind (f t) = true
  | [], c => by simp
  | t :: l, c => by
    rw [List.foldl_cons, foldl_union_kind kind hk f l]
    simp [hk, or_assoc]

/-- A kind of conflict is met in a window exactly when it is met at an instant of it (R99). -/
theorem Ground.kindsIn_iff (kind : Causes → Bool) (hk : ∀ x y, kind (Causes.union x y) = (kind x || kind y)) (h0 : kind .none = false)
    (g : Ground) (x : TunerId) (r : Bool) (m a : Nat) (e : Option Nat) :
    kind (g.kindsIn x r m a e) = true ↔ ∃ t, a ≤ t ∧ beforeEnd t e = true ∧ kind (g.kindsAt x r m t) = true := by
  unfold Ground.kindsIn
  rw [foldl_union_kind kind hk]
  simp only [h0, Bool.false_eq_true, false_or]
  constructor
  · rintro ⟨t, ht, h⟩
    obtain ⟨h1, h2⟩ := Ground.mem_instants_iff.mp ht
    exact ⟨t, by rcases h2 with rfl | ⟨_, h2⟩ <;> omega, h1, h⟩
  · rintro ⟨t, h1, h2, h⟩
    obtain ⟨u, hu, _, _, hku⟩ := g.exists_instant h1 h2
    exact ⟨u, hu, by rw [hku]; exact h⟩

/-- The end of the last stretch of conflict, in a sorted list of tested instants whose members stand for the instants up to the next: no
conflict, none; otherwise an end after which none of the window's instants is in conflict, and whose last instant before is. -/
theorem lastConflictEnd_spec (conflict : Nat → Bool) (stop : Nat) : ∀ (l : List Nat), l.Pairwise (· ≤ ·) → (∀ t ∈ l, t < stop) →
    (lastConflictEnd conflict stop l = none → ∀ t ∈ l, conflict t = false) ∧
    (∀ e, lastConflictEnd conflict stop l = some e → (e = stop ∨ e ∈ l) ∧ (∀ t ∈ l, e ≤ t → conflict t = false) ∧
      ∃ t ∈ l, t ≤ e ∧ conflict t = true ∧ ∀ u ∈ l, u ≤ t ∨ e ≤ u)
  | [], _, _ => ⟨by simp, by simp [lastConflictEnd]⟩
  | [t], _, hs => by
    have := hs t (by simp)
    constructor
    · intro h
      unfold lastConflictEnd at h
      split at h <;> simp_all
    · intro e h
      unfold lastConflictEnd at h
      split at h
      · rename_i hc
        cases h
        refine ⟨Or.inl rfl, ?_, t, by simp, by omega, hc, by simp⟩
        intro u hu hle
        simp at hu
        omega
      · cases h
  | t :: u :: rest, hp, hs => by
    obtain ⟨hp1, hp2⟩ := List.pairwise_cons.mp hp
    obtain ⟨ih1, ih2⟩ := lastConflictEnd_spec conflict stop (u :: rest) hp2 (fun v hv => hs v (List.mem_cons_of_mem _ hv))
    unfold lastConflictEnd
    cases hr : lastConflictEnd conflict stop (u :: rest) with
    | none =>
      have hn := ih1 hr
      simp only
      constructor
      · intro h v hv
        split at h
        · cases h
        · rename_i hc
          rcases List.mem_cons.mp hv with rfl | hv
          · simpa using hc
          · exact hn v hv
      · intro e h
        split at h
        · rename_i hc
          cases h
          refine ⟨Or.inr (by simp), ?_, t, by simp, hp1 u (by simp), hc, ?_⟩
          · intro v hv hle
            rcases List.mem_cons.mp hv with rfl | hv
            · have := hp1 u (by simp)
              have heq : v = u := by omega
              rw [heq]
              exact hn u (by simp)
            · exact hn v hv
          · intro v hv
            rcases List.mem_cons.mp hv with rfl | hv
            · exact Or.inl (Nat.le_refl _)
            · rcases List.mem_cons.mp hv with rfl | hv
              · exact Or.inr (Nat.le_refl _)
              · exact Or.inr ((List.pairwise_cons.mp hp2).1 v hv)
        · cases h
    | some e =>
      obtain ⟨h1, h2, w, hw, hwe, hwc, hwu⟩ := ih2 e hr
      simp only
      refine ⟨by simp, ?_⟩
      intro e' h
      cases h
      have hwt : t ≤ w := hp1 w hw
      refine ⟨h1.imp id (List.mem_cons_of_mem _), ?_, w, List.mem_cons_of_mem _ hw, hwe, hwc, ?_⟩
      · intro v hv hle
        rcases List.mem_cons.mp hv with rfl | hv
        · have h3 : v = w := by omega
          have h4 : e = w := by omega
          have := h2 w hw (by omega)
          simp [this] at hwc
        · exact h2 v hv hle
      · intro v hv
        rcases List.mem_cons.mp hv with rfl | hv
        · exact Or.inl hwt
        · exact hwu v hv

/-- The end of the last run of conflict that reaches into a window: none when no instant of the window is in conflict; otherwise no instant of
the window from it on is, and the one before it is (R97). -/
theorem Ground.lastRunEnd_spec (g : Ground) (x : TunerId) (m a stop : Nat) :
    (g.lastRunEnd x m a stop = none → ∀ t, a ≤ t → t < stop → (g.kindsAt x true m t).any = false) ∧
    (∀ e, g.lastRunEnd x m a stop = some e → a < e ∧ e ≤ stop ∧ (g.kindsAt x true m (e - 1)).any = true ∧
      ∀ t, e ≤ t → t < stop → (g.kindsAt x true m t).any = false) := by
  have hs : ∀ t ∈ g.instants a (some stop), t < stop := by
    intro t ht
    simpa [beforeEnd] using (Ground.mem_instants_iff.mp ht).1
  have hge : ∀ t ∈ g.instants a (some stop), a ≤ t := by
    intro t ht
    rcases (Ground.mem_instants_iff.mp ht).2 with rfl | ⟨_, h⟩ <;> omega
  have back : ∀ t, a ≤ t → t < stop → ∃ u ∈ g.instants a (some stop), u ≤ t ∧ (g.kindsAt x true m u).any = (g.kindsAt x true m t).any ∧
      ∀ v ∈ g.instants a (some stop), v ≤ u ∨ t < v := by
    intro t h1 h2
    obtain ⟨u, hu, hut, hl⟩ := exists_latest_edge g.edges a t h1
    have hb : beforeEnd u (some stop) = true := by simp [beforeEnd]; omega
    refine ⟨u, Ground.mem_instants_iff.mpr ⟨hb, hu⟩, hut, by rw [kindsAt_of_no_edge_between hut hl], ?_⟩
    intro v hv
    rcases (Ground.mem_instants_iff.mp hv).2 with rfl | ⟨hv, hav⟩
    · left; rcases hu with rfl | ⟨_, h⟩ <;> omega
    · have := hl v hv; omega
  obtain ⟨s1, s2⟩ := lastConflictEnd_spec (fun t => (g.kindsAt x true m t).any) stop (g.instants a (some stop))
    (g.instants_pairwise _ _) hs
  unfold Ground.lastRunEnd
  constructor
  · intro h t h1 h2
    obtain ⟨u, hu, _, hk, _⟩ := back t h1 h2
    rw [← hk]
    exact s1 h u hu
  · intro e h
    obtain ⟨h1, h2, w, hw, hwe, hwc, hwu⟩ := s2 e h
    have haw := hge w hw
    have hwlt : w < e := by
      rcases Nat.lt_or_ge w e with h | h
      · exact h
      · have := h2 w hw h
        simp [this] at hwc
    have hes : e ≤ stop := by
      rcases h1 with rfl | h1
      · exact Nat.le_refl _
      · exact Nat.le_of_lt (hs e h1)
    refine ⟨by omega, hes, ?_, ?_⟩
    · obtain ⟨u, hu, hue, hk, hv⟩ := back (e - 1) (by omega) (by omega)
      rw [← hk]
      have : u = w := by
        rcases hwu u hu with h | h
        · rcases hv w hw with h' | h' <;> omega
        · omega
      rw [this]
      exact hwc
    · intro t het hts
      obtain ⟨u, hu, hut, hk, hv⟩ := back t (by omega) hts
      rw [← hk]
      rcases Nat.lt_or_ge u e with h | h
      · exfalso
        rcases h1 with rfl | h1
        · omega
        · rcases hv e h1 with h' | h' <;> omega
      · exact h2 u hu h

/-- A window is free exactly when no kind of conflict is met at any of its instants (R93). -/
theorem Ground.free_iff (g : Ground) (x : TunerId) (m a e : Nat) :
    g.free x m a e = true ↔ ∀ t, a ≤ t → t < e → (g.kindsAt x true m t).any = false := by
  unfold Ground.free
  rw [Option.isNone_iff_eq_none, Ground.firstConflict_eq_none_iff]
  simp only [beforeEnd, decide_eq_true_eq]

end Sys2Proof.Machine
end

