-- ==== Sys2Proof/Laws/Counts.lean ====
section
/-! SUPPORT. What a mark does to a count whose length is a setting (R129, R141, R160). -/

namespace Sys2Proof.Machine

/-- A completed count stays completed, whatever the setting has become. -/
@[simp] theorem Count.mark_of_complete (n length : Nat) : (Count.mark ⟨n, true⟩ length).complete = true := rfl

/-- A mark completes a running count exactly when it brings it to the length. -/
theorem Count.mark_completes (n length : Nat) : (Count.mark ⟨n, false⟩ length).complete = true ↔ length ≤ n + 1 := by
  simp only [Count.mark, countUp, Bool.false_or, decide_eq_true_eq]
  split <;> omega

/-- A mark adds one second below the length, and none at or above it. -/
theorem Count.mark_seconds (c : Count) (length : Nat) :
    (c.mark length).seconds = if c.seconds < length then c.seconds + 1 else c.seconds := rfl

end Sys2Proof.Machine
end

