-- ==== Sys2Proof/Laws/Gaps.lean ====
section
/-! SUPPORT. What a change of a tuner can do to the rest of the machine: the gaps of Recording bookings, and the undelivered Move of a
Recording booking whose gap ends (R134, R136, R152). `gapsOnly` says it once for every operation of the Tuner Monitor; `gapsEndOn` what a
change of a tuner out of Lost and Faulted does. -/

namespace Sys2Proof.Machine

/-- c is b but for its gap: a booking that is not Recording is b itself. -/
def Booking.gapsOf (c b : Booking) : Prop :=
  (b.state ≠ .recording → c = b) ∧
    c = { b with
      gapCount := c.gapCount
      flags := { b.flags with gaps := c.flags.gaps }
      items := { b.items with inGap := c.items.inGap, failover := c.items.failover, moveTarget := c.items.moveTarget } }

/-- The order of a booking is s's, or it was the undelivered Move of a Recording booking and is gone. -/
def State.orderKept (t s : State) (h : Nat) : Prop :=
  t.orderOf h = s.orderOf h ∨
    (t.orderOf h = none ∧ ∃ b o, s.booking? h = some b ∧ b.state = .recording ∧ s.orderOf h = some o ∧ o.kind = .move ∧
      o.delivered = false)

/-- t is s but for the tuners, the gaps, the notices, the due instant and an attempt. -/
def State.gapsOnly (t s : State) : Prop :=
  t.shell = s.shell ∧ t.planner = s.planner ∧ t.links = s.links ∧ t.storage = s.storage ∧ t.orders.stepHold = s.orders.stepHold ∧
    t.handles = s.handles ∧ (∀ h b, s.booking? h = some b → ∃ c, t.booking? h = some c ∧ c.gapsOf b) ∧ ∀ h, t.orderKept s h

theorem Booking.gapsOf.rfl' (b : Booking) : b.gapsOf b := ⟨fun _ => rfl, rfl⟩

theorem Booking.gapsOf.state {c b : Booking} (h : c.gapsOf b) : c.state = b.state := by rw [h.2]

theorem Booking.gapsOf.trans {d c b : Booking} (h1 : d.gapsOf c) (h2 : c.gapsOf b) : d.gapsOf b := by
  refine ⟨fun hb => ?_, ?_⟩
  · rw [h1.1 (by rw [h2.state]; exact hb), h2.1 hb]
  · have e1 := h1.2
    have e2 := h2.2
    rw [e1, e2]

theorem State.gapsOnly.rfl' (s : State) : s.gapsOnly s :=
  ⟨rfl, rfl, rfl, rfl, rfl, rfl, fun _ b h => ⟨b, h, Booking.gapsOf.rfl' b⟩, fun _ => Or.inl rfl⟩

/-- A record that t has, s had: the handles are the same. -/
theorem State.booking_isSome_iff (s : State) (h : Nat) : (s.booking? h).isSome = true ↔ h ∈ s.handles := by
  unfold State.booking? State.handles
  simp [List.find?_isSome]

theorem State.gapsOnly.back {t s : State} (g : t.gapsOnly s) {h : Nat} {c : Booking} (hc : t.booking? h = some c) :
    ∃ b, s.booking? h = some b ∧ c.gapsOf b := by
  have h1 : h ∈ t.handles := (State.booking_isSome_iff t h).mp (by simp [hc])
  rw [g.2.2.2.2.2.1] at h1
  obtain ⟨b, hb⟩ := Option.isSome_iff_exists.mp ((State.booking_isSome_iff s h).mpr h1)
  obtain ⟨c', hc', hg⟩ := g.2.2.2.2.2.2.1 h b hb
  rw [hc] at hc'
  cases hc'
  exact ⟨b, hb, hg⟩

theorem State.gapsOnly.trans {u t s : State} (g1 : u.gapsOnly t) (g2 : t.gapsOnly s) : u.gapsOnly s := by
  have g1' := g1
  have g2' := g2
  obtain ⟨a1, b1, c1, d1, e1, f1, r1, o1⟩ := g1
  obtain ⟨a2, b2, c2, d2, e2, f2, r2, o2⟩ := g2
  refine ⟨a1.trans a2, b1.trans b2, c1.trans c2, d1.trans d2, e1.trans e2, f1.trans f2, ?_, ?_⟩
  · intro h b hb
    obtain ⟨c, hc, hcb⟩ := r2 h b hb
    obtain ⟨d, hd, hdc⟩ := r1 h c hc
    exact ⟨d, hd, hdc.trans hcb⟩
  · intro h
    rcases o1 h with h1 | ⟨h1, c, o, hc, hs, ho, hk, hd⟩
    · rcases o2 h with h2 | ⟨h2, rest⟩
      · exact Or.inl (h1.trans h2)
      · exact Or.inr ⟨h1.trans h2, rest⟩
    · obtain ⟨b, hb, hcb⟩ := g2'.back hc
      rcases o2 h with h2 | ⟨h2, rest⟩
      · exact Or.inr ⟨h1, b, o, hb, by rw [← hcb.state]; exact hs, by rw [← h2]; exact ho, hk, hd⟩
      · exact Or.inr ⟨h1, rest⟩

/-- An operation that touches neither shell, planner, links, storage, records nor orders. -/
theorem State.gapsOnly.of_eq {t s : State} (h1 : t.shell = s.shell) (h2 : t.planner = s.planner) (h3 : t.links = s.links)
    (h4 : t.storage = s.storage) (h5 : t.book = s.book) (h6 : t.orders = s.orders) : t.gapsOnly s := by
  refine ⟨h1, h2, h3, h4, by rw [h6], by unfold State.handles; rw [h5], fun h b hb => ⟨b, ?_, Booking.gapsOf.rfl' b⟩, fun h => Or.inl ?_⟩
  · rw [State.booking_of_book h5]; exact hb
  · unfold State.orderOf; rw [h6]

theorem State.modBooking_handles (s : State) (h : Nat) (f : Booking → Booking) (hf : ∀ b, (f b).handle = b.handle) :
    (s.modBooking h f).handles = s.handles := by
  unfold State.modBooking State.handles
  simp only [State.setBook, List.map_map]
  refine List.map_congr_left fun b _ => ?_
  simp only [Function.comp]
  split <;> simp [hf]

/-- A change of one record that is a change of its gap. -/
theorem State.gapsOnly.modBooking (s : State) (h : Nat) (f : Booking → Booking) (hh : ∀ b, (f b).handle = b.handle)
    (hf : ∀ b, s.booking? h = some b → (f b).gapsOf b) : (s.modBooking h f).gapsOnly s := by
  refine ⟨by simp, rfl, rfl, rfl, rfl, State.modBooking_handles s h f hh, fun k b hb => ?_, fun _ => Or.inl rfl⟩
  by_cases hk : h = k
  · subst hk
    exact ⟨f b, State.modBooking_booking_eq hb (fun b hb => by rw [hh, hb]), hf b hb⟩
  · exact ⟨b, by rw [State.modBooking_booking_ne hk hh]; exact hb, Booking.gapsOf.rfl' b⟩

theorem State.evaluateWake_gaps (s : State) : s.evaluateWake.gapsOnly s := by
  refine State.gapsOnly.of_eq (by simp) ?_ ?_ ?_ (by simp) ?_
  all_goals
    unfold State.evaluateWake
    repeat' split
    all_goals rfl

theorem State.beginGap_gaps {s : State} {h : Nat} (hr : ∀ b, s.booking? h = some b → b.state = .recording) :
    (s.beginGap h).gapsOnly s :=
  State.gapsOnly.modBooking s h _ (fun _ => rfl) fun b hb => ⟨fun hn => absurd (hr b hb) hn, rfl⟩

theorem State.endGap_gaps {s : State} {h : Nat} (hr : ∀ b, s.booking? h = some b → b.state = .recording) :
    (s.endGap h).gapsOnly s :=
  State.gapsOnly.modBooking s h _ (fun _ => rfl) fun b hb => ⟨fun hn => absurd (hr b hb) hn, rfl⟩

theorem State.orderOf_filter (s : State) (h k : Nat) :
    (s.setOrderList (s.orders.orders.filter fun o => o.handle != h)).orderOf k = if k = h then none else s.orderOf k := by
  unfold State.orderOf State.setOrderList
  simp only [State.setOrders]
  by_cases hk : k = h
  · subst hk
    rw [if_pos rfl, List.find?_eq_none]
    intro o ho
    have := (List.mem_filter.mp ho).2
    simpa using this
  · rw [if_neg hk, List.find?_filter]
    congr 1
    funext o
    by_cases ho : o.handle = k
    · simp [ho, hk]
    · simp [ho]

@[simp] theorem State.evaluateWake_orderOf (s : State) (k : Nat) : s.evaluateWake.orderOf k = s.orderOf k := by
  unfold State.orderOf State.evaluateWake
  repeat' split
  all_goals rfl

@[simp] theorem State.afterRemoval_orderOf (s : State) (old : Option Order) (k : Nat) : (s.afterRemoval old).orderOf k = s.orderOf k := by
  unfold State.afterRemoval
  repeat' split
  all_goals simp

/-- A booking's order removed: none is left, the others stand (R115). -/
theorem State.removeOrder_orderOf (s : State) (h k : Nat) : (s.removeOrder h).orderOf k = if k = h then none else s.orderOf k := by
  unfold State.removeOrder
  simp [State.orderOf_filter]

/-- An order removed changes nothing but the orders and the Wake Unit. -/
theorem State.removeOrder_rest (s : State) (h : Nat) :
    (s.removeOrder h).planner = s.planner ∧ (s.removeOrder h).links = s.links ∧ (s.removeOrder h).storage = s.storage ∧
      (s.removeOrder h).monitor = s.monitor ∧ (s.removeOrder h).notices = s.notices ∧
      (s.removeOrder h).orders.stepHold = s.orders.stepHold := by
  unfold State.removeOrder State.afterRemoval State.evaluateWake
  dsimp only
  repeat' split
  all_goals exact ⟨rfl, rfl, rfl, rfl, rfl, rfl⟩

theorem State.endGapOfTuner_gaps {s : State} {h : Nat} (hr : ∀ b, s.booking? h = some b → b.state = .recording)
    (hx : ∃ b, s.booking? h = some b) : (s.endGapOfTuner h).gapsOnly s := by
  unfold State.endGapOfTuner
  have g1 := State.endGap_gaps hr
  dsimp only
  split
  · rename_i hu
    have hr2 : ∀ b, (s.endGap h).booking? h = some b → b.state = .recording := by
      intro c hc
      obtain ⟨b, hb, hcb⟩ := g1.back hc
      rw [hcb.state]
      exact hr b hb
    have g2 : ((s.endGap h).modItems h fun i => { i with moveTarget := none }).gapsOnly (s.endGap h) :=
      State.gapsOnly.modBooking _ h _ (fun _ => rfl) fun b hb => ⟨fun hn => absurd (hr2 b hb) hn, rfl⟩
    have g3 := g2.trans g1
    obtain ⟨b, hb⟩ := hx
    obtain ⟨p1, p2, p3, _, _, p6⟩ := State.removeOrder_rest ((s.endGap h).modItems h fun i => { i with moveTarget := none }) h
    have ho : ∀ k, ((s.endGap h).modItems h fun i => { i with moveTarget := none }).orderOf k = s.orderOf k := fun _ => rfl
    refine ⟨by simp, p1, p2, p3, p6, ?_, ?_, ?_⟩
    · have : (((s.endGap h).modItems h fun i => { i with moveTarget := none }).removeOrder h).handles =
        ((s.endGap h).modItems h fun i => { i with moveTarget := none }).handles := by
        unfold State.handles
        simp
      rw [this]
      exact g3.2.2.2.2.2.1
    · intro k c hc
      rw [State.booking_of_book (State.removeOrder_book _ _)]
      exact g3.2.2.2.2.2.2.1 k c hc
    · intro k
      unfold State.orderKept
      rw [State.removeOrder_orderOf, ho]
      by_cases hk : k = h
      · subst hk
        rw [if_pos rfl]
        have hu' : s.holdsUndelivered k .move = true := hu
        unfold State.holdsUndelivered at hu'
        split at hu'
        · rename_i o ho'
          simp only [Bool.and_eq_true, beq_iff_eq, Bool.not_eq_true'] at hu'
          exact Or.inr ⟨rfl, b, o, hb, hr b hb, ho', hu'.1, hu'.2⟩
        · cases hu'
      · rw [if_neg hk]
        exact Or.inl rfl
  · exact g1

/-! ## Gaps that end (R134, R136) -/

theorem State.orderOf_of_orders {s t : State} (h : t.orders = s.orders) (k : Nat) : t.orderOf k = s.orderOf k := by
  unfold State.orderOf
  rw [h]

/-- The end of one booking's gap leaves the other records and orders. -/
theorem State.endGapOfTuner_other (s : State) {h k : Nat} (hk : k ≠ h) :
    (s.endGapOfTuner h).booking? k = s.booking? k ∧ (s.endGapOfTuner h).orderOf k = s.orderOf k := by
  have step : ∀ (u : State) (f : OrderItems → OrderItems), (u.modItems h f).booking? k = u.booking? k := fun u f =>
    State.modBooking_booking_ne hk.symm (fun _ => rfl)
  unfold State.endGapOfTuner
  dsimp only
  split
  · refine ⟨?_, ?_⟩
    · rw [State.booking_of_book (State.removeOrder_book _ _), step]
      exact step _ _
    · rw [State.removeOrder_orderOf, if_neg hk]
      rfl
  · exact ⟨step _ _, rfl⟩

/-- What the end of a booking's gap does to it (R134, R136). -/
theorem State.endGapOfTuner_ends {s : State} {b : Booking} (hb : s.booking? b.handle = some b) :
    (s.endGapOfTuner b.handle).gapEnds s b := by
  have h1 : (s.endGap b.handle).booking? b.handle = some { b with items := { b.items with inGap := false, failover := 0 } } :=
    State.modBooking_booking_eq hb (fun _ hb => hb)
  have hu : (s.endGap b.handle).holdsUndelivered b.handle .move = s.holdsUndelivered b.handle .move := rfl
  unfold State.endGapOfTuner
  dsimp only
  rw [hu]
  cases hw : s.holdsUndelivered b.handle .move with
  | true =>
    have w : ∃ o, s.orderOf b.handle = some o ∧ o.kind = .move ∧ o.delivered = false := by
      unfold State.holdsUndelivered at hw
      split at hw
      · rename_i o ho
        simp only [Bool.and_eq_true, beq_iff_eq, Bool.not_eq_true'] at hw
        exact ⟨o, ho, hw⟩
      · cases hw
    refine ⟨fun _ => ⟨?_, 0, ?_⟩, fun hn => absurd w hn⟩
    · rw [if_pos rfl, State.removeOrder_orderOf, if_pos rfl]
    · rw [if_pos rfl, State.booking_of_book (State.removeOrder_book _ _)]
      exact State.modBooking_booking_eq h1 (fun _ hb => hb)
  | false =>
    have w : ¬ ∃ o, s.orderOf b.handle = some o ∧ o.kind = .move ∧ o.delivered = false := by
      rintro ⟨o, ho, hk, hd⟩
      unfold State.holdsUndelivered at hw
      rw [ho] at hw
      simp [hk, hd] at hw
    exact ⟨fun hn => absurd hn w, fun _ => ⟨rfl, 0, h1⟩⟩

/-- gapEnds reads one record and one order of the state before and after. -/
theorem State.gapEnds.congr {t u s r : State} {b : Booking} (g : t.gapEnds s b) (hb : u.booking? b.handle = t.booking? b.handle)
    (ho : u.orderOf b.handle = t.orderOf b.handle) (hr : s.orderOf b.handle = r.orderOf b.handle) : u.gapEnds r b := by
  unfold State.gapEnds at *
  rw [hb, ho, ← hr]
  exact g

/-- The gaps of a list of bookings end, and nothing else changes. -/
theorem State.endGaps_end (l : List Booking) : ∀ s : State, (l.map (·.handle)).Nodup → (∀ b ∈ l, s.booking? b.handle = some b) →
    (∀ b ∈ l, (l.foldl (fun s b => s.endGapOfTuner b.handle) s).gapEnds s b) ∧
      ∀ k, k ∉ l.map (·.handle) →
        (l.foldl (fun s b => s.endGapOfTuner b.handle) s).booking? k = s.booking? k ∧
          (l.foldl (fun s b => s.endGapOfTuner b.handle) s).orderOf k = s.orderOf k := by
  induction l with
  | nil => exact fun s _ _ => ⟨by simp, fun _ _ => ⟨rfl, rfl⟩⟩
  | cons a l ih =>
    intro s hn hl
    simp only [List.map_cons, List.nodup_cons] at hn
    have other : ∀ b ∈ l, b.handle ≠ a.handle := fun b hb e => hn.1 (e ▸ List.mem_map_of_mem hb)
    obtain ⟨ends, rest⟩ := ih (s.endGapOfTuner a.handle) hn.2 fun b hb => by
      rw [(s.endGapOfTuner_other (other b hb)).1]
      exact hl b (by simp [hb])
    refine ⟨fun b hb => ?_, fun k hk => ?_⟩
    · rcases List.mem_cons.mp hb with rfl | hb
      · exact (State.endGapOfTuner_ends (hl b (by simp))).congr (rest _ hn.1).1 (rest _ hn.1).2 rfl
      · exact (ends b hb).congr rfl rfl (s.endGapOfTuner_other (other b hb)).2
    · simp only [List.map_cons, List.mem_cons, not_or] at hk
      obtain ⟨r1, r2⟩ := rest k hk.2
      obtain ⟨o1, o2⟩ := s.endGapOfTuner_other hk.1
      exact ⟨r1.trans o1, r2.trans o2⟩

/-- What the Order Unit does when it is told that a tuner has left Lost and Faulted (R134, R136, R152). -/
theorem State.gapsEnd_ends {s : State} (hs : s.tablesHold) (x : TunerId) : (s.gapsEnd x).gapsEndOn s x := by
  intro b hb
  have hm : b ∈ s.book.records := List.mem_of_find?_eq_some hb
  have nodup : ((s.book.records.filter fun b =>
      b.state == .recording && b.placement.tuner? == some x && b.items.inGap).map (·.handle)).Nodup :=
    (hs.1.1.imp Nat.ne_of_lt).sublist ((List.filter_sublist).map _)
  obtain ⟨ends, rest⟩ := State.endGaps_end _ s nodup fun c hc => State.booking_of_mem hs (List.mem_filter.mp hc).1
  refine ⟨fun h => ends b (List.mem_filter.mpr ⟨hm, by simp [h]⟩), fun h => ?_⟩
  rw [← hb]
  refine rest _ fun hk => h ?_
  obtain ⟨c, hc, hh⟩ := List.mem_map.mp hk
  obtain ⟨hcm, hp⟩ := List.mem_filter.mp hc
  have : c = b := by
    have h1 := State.booking_of_mem hs hcm
    rw [hh, hb] at h1
    exact (Option.some.inj h1).symm
  subst this
  simp only [Bool.and_eq_true, beq_iff_eq] at hp
  exact ⟨hp.1.1, hp.1.2, hp.2⟩

/-- A change of a tuner that takes it out of Lost and Faulted ends the gaps on it (R152). -/
theorem State.changeTuner_ends {s : State} (hs : s.tablesHold) (x : TunerId) (new : Tuner) (cause : ChangeCause)
    (ho : (s.tuner x).condition.gapping = true) (hn : new.condition.gapping = false) : (s.changeTuner x new cause).gapsEndOn s x := by
  unfold State.changeTuner
  dsimp only
  rw [ho, hn]
  have ht : ((s.setTuner x { new with changeLatch := true }).offer
      (.tunerChange x new.condition new.faultLatch new.tuned cause)).tablesHold := by simp [hs]
  have hk : ((s.setTuner x { new with changeLatch := true }).offer
      (.tunerChange x new.condition new.faultLatch new.tuned cause)).book = s.book := by cases x <;> rfl
  have hr : ((s.setTuner x { new with changeLatch := true }).offer
      (.tunerChange x new.condition new.faultLatch new.tuned cause)).orders = s.orders := by cases x <;> rfl
  have g := State.gapsEnd_ends ht x
  intro b hb
  obtain ⟨g1, g2⟩ := g b (by rw [State.booking_of_book hk]; exact hb)
  have e : _ = s.orderOf b.handle := State.orderOf_of_orders hr b.handle
  exact ⟨fun h => (g1 h).congr rfl rfl e, fun h => ⟨(g2 h).1, (g2 h).2.trans e⟩⟩

/-- Gaps begun or ended for a list of Recording bookings. -/
theorem State.gapsOnly.foldl {f : State → Booking → State}
    (hf : ∀ (s : State) (b : Booking), (∀ c, s.booking? b.handle = some c → c.state = .recording) → (∃ c, s.booking? b.handle = some c) →
      (f s b).gapsOnly s) (l : List Booking) :
    ∀ s : State, (∀ b ∈ l, ∃ c, s.booking? b.handle = some c ∧ c.state = .recording) → (l.foldl f s).gapsOnly s := by
  induction l with
  | nil => exact fun s _ => State.gapsOnly.rfl' s
  | cons a l ih =>
    intro s hl
    obtain ⟨c, hc, hs⟩ := hl a (by simp)
    have g1 : (f s a).gapsOnly s := hf s a (fun d hd => by rw [hc] at hd; cases hd; exact hs) ⟨c, hc⟩
    refine (ih (f s a) fun b hb => ?_).trans g1
    obtain ⟨d, hd, hds⟩ := hl b (by simp [hb])
    obtain ⟨e, he, hed⟩ := g1.2.2.2.2.2.2.1 _ _ hd
    exact ⟨e, he, by rw [hed.state]; exact hds⟩

theorem State.changeTuner_gaps {s : State} (hs : s.tablesHold) (x : TunerId) (new : Tuner) (cause : ChangeCause) :
    (s.changeTuner x new cause).gapsOnly s := by
  unfold State.changeTuner
  have g1 : ((s.setTuner x { new with changeLatch := true }).offer
      (.tunerChange x new.condition new.faultLatch new.tuned cause)).gapsOnly s := by
    refine State.gapsOnly.of_eq (by simp) ?_ ?_ ?_ (by simp) ?_
    all_goals cases x <;> rfl
  have ht : ((s.setTuner x { new with changeLatch := true }).offer
      (.tunerChange x new.condition new.faultLatch new.tuned cause)).tablesHold := by simp [hs]
  have hm : ∀ (u : State) (p : Booking → Bool), u.tablesHold → ∀ b ∈ u.book.records.filter (fun b => b.state == .recording && p b),
      ∃ c, u.booking? b.handle = some c ∧ c.state = .recording := by
    intro u p hu b hb
    obtain ⟨hm, hp⟩ := List.mem_filter.mp hb
    simp only [Bool.and_eq_true, beq_iff_eq] at hp
    exact ⟨b, State.booking_of_mem hu hm, hp.1⟩
  dsimp only
  repeat' split
  · unfold State.gapsBegin
    refine (State.gapsOnly.foldl (f := fun s b => s.beginGap b.handle) (fun _ _ h1 _ => State.beginGap_gaps h1) _ _ ?_).trans g1
    simp only [Bool.and_assoc]
    exact hm _ (fun b => b.placement.tuner? == some x && !b.items.inGap) ht
  · unfold State.gapsEnd
    refine (State.gapsOnly.foldl (f := fun s b => s.endGapOfTuner b.handle) (fun _ _ h1 h2 => State.endGapOfTuner_gaps h1 h2) _ _ ?_).trans g1
    simp only [Bool.and_assoc]
    exact hm _ (fun b => b.placement.tuner? == some x && b.items.inGap) ht
  · exact g1

theorem State.evaluateUse_gaps {s : State} (hs : s.tablesHold) (x : TunerId) : (s.evaluateUse x).gapsOnly s := by
  unfold State.evaluateUse State.comeIntoUse State.goOutOfUse
  repeat' split
  all_goals first
    | exact State.gapsOnly.rfl' s
    | exact State.changeTuner_gaps hs _ _ _

/-- What the in-use rule can do (R142). -/
theorem State.evaluateTuners_gaps {s : State} (hs : s.tablesHold) : s.evaluateTuners.gapsOnly s :=
  (State.evaluateUse_gaps (State.evaluateUse_tables hs .a) .b).trans (State.evaluateUse_gaps hs .a)

theorem State.arrive_gaps {s : State} (hs : s.tablesHold) (x : TunerId) (mux : Nat) : (s.arrive x mux).gapsOnly s := by
  unfold State.arrive
  dsimp only
  repeat' split
  · exact State.gapsOnly.rfl' s
  · refine State.gapsOnly.of_eq (by simp) ?_ ?_ ?_ (by simp) ?_
    all_goals cases x <;> rfl
  · exact State.changeTuner_gaps hs _ _ _

/-- What an arrival can do (R147). -/
theorem State.bookingArrives_gaps {s : State} (hs : s.tablesHold) (h : Nat) : (s.bookingArrives h).gapsOnly s := by
  unfold State.bookingArrives
  repeat' split
  · exact State.gapsOnly.rfl' s
  · exact State.evaluateTuners_gaps hs
  · exact (State.evaluateTuners_gaps (State.arrive_tables hs _ _)).trans (State.arrive_gaps hs _ _)

end Sys2Proof.Machine
end

