-- ==== Sys2Proof/Laws/Endings.lean ====
section
/-! SUPPORT. What issuing an order, stopping and finishing a booking leave: the order it holds, its record, the pass asked for, its notice (R47,
R51, R115, R120, R121). The Series Matcher's work touches no order. -/

namespace Sys2Proof.Machine

/-! ## The Series Matcher leaves the orders alone -/

theorem foldl_orders {α : Type} (f : State → α → State) (hf : ∀ s a, (f s a).orders = s.orders) (l : List α) (s : State) :
    (l.foldl f s).orders = s.orders := by
  induction l generalizing s with
  | nil => rfl
  | cons a l ih => rw [List.foldl_cons, ih, hf]

theorem foldl_matched_orders {α : Type} (f : Matched → α → Matched) (hf : ∀ m a, (f m a).state.orders = m.state.orders) (l : List α)
    (m : Matched) : (l.foldl f m).state.orders = m.state.orders := by
  induction l generalizing m with
  | nil => rfl
  | cons a l ih => rw [List.foldl_cons, ih, hf]

@[simp] theorem State.bookingChanged_orders (s : State) (h : Nat) : (s.bookingChanged h).orders = s.orders := by
  unfold State.bookingChanged State.markChanged
  split <;> rfl
@[simp] theorem State.noteState_orders (s : State) (h : Nat) : (s.noteState h).orders = s.orders := by
  unfold State.noteState
  split <;> rfl
@[simp] theorem State.offer_orders (s : State) (body : NoticeBody) : (s.offer body).orders = s.orders := rfl
@[simp] theorem State.modBooking_orders (s : State) (h : Nat) (f : Booking → Booking) : (s.modBooking h f).orders = s.orders := rfl
@[simp] theorem State.modLink_orders (s : State) (h : Nat) (f : Link → Link) : (s.modLink h f).orders = s.orders := rfl
@[simp] theorem State.settleStarved_orders (s : State) (h : Nat) (r : Bool) : (s.settleStarved h r).orders = s.orders := rfl
@[simp] theorem State.modOccurrences_orders (s : State) (h : Nat) (f : List Occurrence → List Occurrence) :
    (s.modOccurrences h f).orders = s.orders := rfl
@[simp] theorem State.leaveAbandon_orders (s : State) (h : Nat) : (s.leaveAbandon h).orders = s.orders := rfl
@[simp] theorem State.keepHistory_orders (s : State) (b : Booking) (v : Verdict) : (s.keepHistory b v).orders = s.orders := by
  unfold State.keepHistory
  repeat' split
  all_goals rfl
@[simp] theorem State.starve_orders (s : State) (h : Nat) : (s.starve h).orders = s.orders := by
  unfold State.starve
  repeat' split
  all_goals rfl
theorem State.create_orders {s t : State} {make : Nat → Booking} {h : Nat} (hc : s.create make = some (h, t)) :
    t.orders = s.orders := by
  unfold State.create at hc
  split at hc
  · cases hc; rfl
  · cases hc
@[simp] theorem State.takeFromAlternatives_orders (s : State) (ref : EventRef) : (s.takeFromAlternatives ref).orders = s.orders := by
  unfold State.takeFromAlternatives
  exact foldl_orders _ (fun _ _ => by simp) _ _
@[simp] theorem State.createOnEvent_orders (s : State) (l : Link) (e : Event) : (s.createOnEvent l e).state.orders = s.orders := by
  unfold State.createOnEvent
  split
  · simp
  · rename_i hc
    simp [State.create_orders hc]
@[simp] theorem State.addAlternative_orders (s : State) (b : Booking) (e : Event) : (s.addAlternative b e).orders = s.orders := by
  unfold State.addAlternative
  repeat' split
  all_goals simp
@[simp] theorem State.switchAiring_orders (s : State) (b : Booking) (e : Event) : (s.switchAiring b e).orders = s.orders := by
  unfold State.switchAiring
  simp
@[simp] theorem State.matchOne_orders (s : State) (i : Nat) (e : Event) : (s.matchOne i e).state.orders = s.orders := by
  unfold State.matchOne State.matchEpisode
  repeat' split
  all_goals simp
@[simp] theorem State.fullMatch_orders (s : State) (i : Nat) : (s.fullMatch i).state.orders = s.orders := by
  unfold State.fullMatch State.matchAll
  split
  · rfl
  · dsimp only
    rw [State.settleStarved_orders]
    exact foldl_matched_orders _ (fun _ _ => by simp) _ _
@[simp] theorem State.retimeEntry_orders (s : State) (l : Link) (m d : Nat) (o : Occurrence) :
    (s.retimeEntry l m d o).orders = s.orders := by
  unfold State.retimeEntry
  repeat' split
  all_goals simp
@[simp] theorem State.bookDay_orders (s : State) (l : Link) (v : Nat) (w : BitVec 7) (m d : Nat) (day : Int) :
    (s.bookDay l v w m d day).state.orders = s.orders := by
  unfold State.bookDay
  repeat' split
  all_goals first
    | rfl
    | simp
  rename_i hc
  simp [State.create_orders hc]
@[simp] theorem State.instantiate_orders (s : State) (i : Nat) (r : Bool) : (s.instantiate i r).state.orders = s.orders := by
  unfold State.instantiate
  split
  · split
    · split
      · dsimp only
        rw [State.settleStarved_orders, foldl_matched_orders _ (fun _ _ => by simp)]
        dsimp only
        split
        · rw [foldl_orders _ (fun _ _ => by simp)]
          simp
        · simp
      · rfl
    · rfl
  · rfl
@[simp] theorem State.instantiateAll_orders (s : State) (r : Bool) : (s.instantiateAll r).orders = s.orders := by
  unfold State.instantiateAll
  exact foldl_orders _ (fun _ _ => by simp) _ _
@[simp] theorem State.retryStarved_orders (s : State) : s.retryStarved.orders = s.orders := by
  unfold State.retryStarved
  refine foldl_orders _ (fun s l => ?_) _ _
  unfold State.retry
  repeat' split
  all_goals simp
@[simp] theorem State.removeRecords_orders (s : State) (old : Booking → Bool) : (s.removeRecords old).orders = s.orders := by
  unfold State.removeRecords
  split
  · simp
  · rfl

@[simp] theorem State.settle_booking (s : State) (h : Nat) : s.settle.booking? h = s.booking? h := State.booking_of_book (by simp) h
@[simp] theorem State.settle_orderOf (s : State) (h : Nat) : s.settle.orderOf h = s.orderOf h := State.orderOf_of_orders (by simp) h

/-- After a command that asked for a pass, the pass comes. -/
theorem State.asked.comes {s : State} (h : s.asked) : s.settle.passComes := by
  unfold State.passComes
  rw [State.settle_planner]
  exact State.takeTriggers_running s h

/-! ## Issuing and stopping -/

/-- The order issued for a booking, and the orders of the others (R115). -/
theorem State.issue_orderOf {s : State} {kind : OrderKind} {h : Nat} {b : Booking} (hb : s.booking? h = some b) (tuner : Option TunerId)
    (attempt : Nat) (onRunning : Bool) (k : Nat) :
    (s.issue kind h tuner attempt onRunning).orderOf k =
      if k = h then
        some ⟨kind, h, tuner, b.service, muxOf s.catalogue.services b.service, s.now, false, attempt, onRunning, 0, 0⟩
      else s.orderOf k := by
  unfold State.issue
  rw [hb]
  dsimp only
  have key : ∀ o : Order, o.handle = h →
      (s.setOrderList ((s.orders.orders.filter fun o => o.handle != h) ++ [o])).orderOf k = if k = h then some o else s.orderOf k := by
    intro o ho
    unfold State.orderOf State.setOrderList
    simp only [State.setOrders, List.find?_append]
    by_cases hk : k = h
    · subst hk
      rw [if_pos rfl]
      have : (List.find? (fun o => o.handle == k) (s.orders.orders.filter fun o => o.handle != k)) = none := by
        rw [List.find?_eq_none]
        intro x hx
        simpa using (List.mem_filter.mp hx).2
      rw [this]
      simp [ho]
    · rw [if_neg hk]
      have : (List.find? (fun o => o.handle == k) (s.orders.orders.filter fun o => o.handle != h)) =
          s.orders.orders.find? fun o => o.handle == k := by
        rw [List.find?_filter]
        congr 1
        funext x
        by_cases hx : x.handle = k
        · simp [hx, hk]
        · simp [hx]
      rw [this]
      have h2 : (o.handle == k) = false := by simp [ho]; exact fun e => hk e.symm
      cases s.orders.orders.find? fun o => o.handle == k <;> simp [h2]
  split <;> simp [key]

theorem State.issue_order {u s : State} {kind : OrderKind} {h : Nat} {b : Booking} {tuner : Option TunerId} {attempt : Nat}
    {onRunning : Bool} {c : Booking} (hn : u.now = s.now) (hb : u.booking? h = some b) (hc : s.booking? h = some c)
    (hv : b.service = c.service) (hk : u.catalogue = s.catalogue) :
    (u.issue kind h tuner attempt onRunning).ordered s h kind tuner attempt onRunning :=
  ⟨_, c, by rw [State.issue_orderOf hb, if_pos rfl], hc, rfl, rfl, rfl, rfl, hn, rfl, hv, by dsimp only; rw [hk, hv], rfl⟩

theorem State.ordered.of_orderOf {t u s : State} {h : Nat} {kind : OrderKind} {tuner : Option TunerId} {attempt : Nat} {onRunning : Bool}
    (ho : u.ordered s h kind tuner attempt onRunning) (he : t.orderOf h = u.orderOf h) : t.ordered s h kind tuner attempt onRunning := by
  obtain ⟨o, b, h1, rest⟩ := ho
  exact ⟨o, b, by rw [he]; exact h1, rest⟩

/-- A booking stopped, and its notice (R51, R120). -/
theorem State.stop_stops {s : State} {h : Nat} {b : Booking} (hb : s.booking? h = some b) (cause : StopCause) (truncated : Bool) :
    (s.stop h cause truncated).stopsAs s b cause truncated := by
  have hh := State.booking_handle hb
  unfold State.stop
  dsimp only
  have h1 : ∀ u : State, u.book = s.book → (u.modBooking h fun b => b.stopped cause truncated (s.holdsDelivered h .move) s.now).booking? h =
      some (b.stopped cause truncated (s.holdsDelivered h .move) s.now) := fun u hu =>
    State.modBooking_booking_eq (by rw [State.booking_of_book hu]; exact hb) (fun _ hb => hb)
  have h2 : (if s.claimOpen h then s.trigger else s).book = s.book := by split <;> simp
  have h3 : (if s.claimOpen h then s.trigger else s).now = s.now := by split <;> rfl
  have h4 : (if s.claimOpen h then s.trigger else s).catalogue = s.catalogue := by split <;> rfl
  refine ⟨?_, ?_⟩
  · rw [hh, State.booking_of_book (State.noteState_book _ _), State.booking_of_book (State.issue_book _ _ _ _ _ _)]
    refine ⟨_, h1 _ h2, rfl, rfl, rfl, rfl, rfl, rfl, rfl, rfl, rfl, rfl, rfl, ?_⟩
    have hn := State.noteState_tells (s := State.issue _ .stop h none 1 false)
      (by rw [State.booking_of_book (State.issue_book _ _ _ _ _ _)]; exact h1 _ h2)
    unfold State.tells
    rw [show (b.stopped cause truncated (s.holdsDelivered h .move) s.now).handle = h from hh]
    exact hn
  · rw [hh]
    refine State.ordered.of_orderOf (u := State.issue _ .stop h none 1 false) ?_
      (State.orderOf_of_orders (State.noteState_orders _ _) h)
    exact State.issue_order (show (State.modBooking _ _ _).now = _ from h3) (h1 _ h2) hb rfl (show (State.modBooking _ _ _).catalogue = _ from h4)

/-! ## Finishing -/

/-- The end of a command keeps what is told (R86, R193). -/
theorem State.settle_tellsOf {s : State} {h : Nat} {r : BookingReport} (ht : s.tellsOf h r) : s.settle.tellsOf h r :=
  ht.keep (by simp) (by simp)

theorem State.done.settle {s : State} {h : Nat} {d : Booking} {r : BookingReport} (hd : s.done h d r) : s.settle.done h d r :=
  hd.of_book (State.settle_tables hd.1) (by simp) (State.settle_tellsOf hd.2.2.2)

theorem State.finishCore_orderOf {s : State} {h : Nat} {b : Booking} (hb : s.booking? h = some b) (v : Verdict) (u : Bool) (k : Nat) :
    (s.finishCore h v u).orderOf k = if k = h then none else s.orderOf k := by
  unfold State.finishCore
  rw [hb]
  dsimp only
  rw [State.orderOf_of_orders (State.retryStarved_orders _), State.orderOf_of_orders (State.keepHistory_orders _ _ _),
    State.orderOf_of_orders (State.leaveAbandon_orders _ _), State.removeOrder_orderOf,
    State.orderOf_of_orders (State.bookingChanged_orders _ _), State.orderOf_of_orders (State.offer_orders _ _),
    State.orderOf_of_orders (State.modBooking_orders _ _ _)]

/-- A booking finished: its record, no order, a pass to come, its notice (R47, R51, R85, R121). -/
theorem State.finish_finishes {s : State} (hs : s.tablesHold) {h : Nat} {b : Booking} (hb : s.booking? h = some b) (v : Verdict)
    (u : Bool) : (s.finish h v u).settle.finishedAs s b v u := by
  have hh := State.booking_handle hb
  refine ⟨?_, ?_, (State.finish_asks hb v u).comes, ?_⟩
  · rw [State.settle_booking, hh]
    exact (State.finish_done hs hb v u).2.1
  · rw [State.settle_orderOf, hh]
    unfold State.finish
    have ht := (State.finishCore_done hs hb v u).1
    have g := State.evaluateTuners_gaps ht
    rcases g.2.2.2.2.2.2.2 h with h1 | ⟨h1, _⟩
    · rw [h1, State.finishCore_orderOf hb, if_pos rfl]
    · exact h1
  · unfold State.tellsFinish
    rw [hh]
    exact State.settle_tellsOf (State.finish_done hs hb v u).2.2.2

end Sys2Proof.Machine
end

