-- ==== Sys2Proof/Laws/PerInstr.lean ====
section
/-! SUPPORT. Statements made for every command, one lemma for each constructor. -/

namespace Sys2Proof.Laws.Frames

set_option Elab.async false

/-- The frame a well-formed request row stands for fits a frame (R199), and its kind code is one of the table's, but for the row of
unknown codes (R213). -/
def Statement (i : Instr) : Prop :=
  ∀ f, i.wellFormed = true → frameOf i = some f →
    f.body.length ≤ Config.maxBody ∧ Config.kinds.contains f.kind = (match i with
      | .unknownKind _ _ _ => false
      | _ => true)

theorem identify (tag : Byte) (body : List Byte) : Statement (.identify tag body) := by
  intro f hw hf
  cases hf
  simp [Instr.wellFormed, bodyFits] at hw
  exact ⟨hw, rfl⟩
theorem restart (tag : Byte) (body : List Byte) : Statement (.restart tag body) := by
  intro f hw hf
  cases hf
  simp [Instr.wellFormed, bodyFits] at hw
  exact ⟨hw, rfl⟩
theorem setSetting (tag : Byte) (body : List Byte) : Statement (.setSetting tag body) := by
  intro f hw hf
  cases hf
  simp [Instr.wellFormed, bodyFits] at hw
  exact ⟨hw.1, rfl⟩
theorem setLinkRate (tag : Byte) (body : List Byte) : Statement (.setLinkRate tag body) := by
  intro f hw hf
  cases hf
  simp [Instr.wellFormed, bodyFits] at hw
  exact ⟨hw.1, rfl⟩
theorem setLinkParity (tag : Byte) (body : List Byte) : Statement (.setLinkParity tag body) := by
  intro f hw hf
  cases hf
  simp [Instr.wellFormed, bodyFits] at hw
  exact ⟨hw.1, rfl⟩
theorem setRxTrigger (tag : Byte) (body : List Byte) : Statement (.setRxTrigger tag body) := by
  intro f hw hf
  cases hf
  simp [Instr.wellFormed, bodyFits] at hw
  exact ⟨hw.1, rfl⟩
theorem setFeedMode (tag : Byte) (body : List Byte) : Statement (.setFeedMode tag body) := by
  intro f hw hf
  cases hf
  simp [Instr.wellFormed, bodyFits] at hw
  exact ⟨hw.1, rfl⟩
theorem setLiveRank (tag : Byte) (body : List Byte) : Statement (.setLiveRank tag body) := by
  intro f hw hf
  cases hf
  simp [Instr.wellFormed, bodyFits] at hw
  exact ⟨hw.1, rfl⟩
theorem setPurgeAge (tag : Byte) (body : List Byte) : Statement (.setPurgeAge tag body) := by
  intro f hw hf
  cases hf
  simp [Instr.wellFormed, bodyFits] at hw
  exact ⟨hw.1, rfl⟩
theorem setAccurateSlack (tag : Byte) (body : List Byte) : Statement (.setAccurateSlack tag body) := by
  intro f hw hf
  cases hf
  simp [Instr.wellFormed, bodyFits] at hw
  exact ⟨hw.1, rfl⟩
theorem setRunHold (tag : Byte) (body : List Byte) : Statement (.setRunHold tag body) := by
  intro f hw hf
  cases hf
  simp [Instr.wellFormed, bodyFits] at hw
  exact ⟨hw.1, rfl⟩
theorem setLossHold (tag : Byte) (body : List Byte) : Statement (.setLossHold tag body) := by
  intro f hw hf
  cases hf
  simp [Instr.wellFormed, bodyFits] at hw
  exact ⟨hw.1, rfl⟩
theorem setWakeMode (tag : Byte) (body : List Byte) : Statement (.setWakeMode tag body) := by
  intro f hw hf
  cases hf
  simp [Instr.wellFormed, bodyFits] at hw
  exact ⟨hw.1, rfl⟩
theorem setWakeLead (tag : Byte) (body : List Byte) : Statement (.setWakeLead tag body) := by
  intro f hw hf
  cases hf
  simp [Instr.wellFormed, bodyFits] at hw
  exact ⟨hw.1, rfl⟩
theorem setWakeTimeout (tag : Byte) (body : List Byte) : Statement (.setWakeTimeout tag body) := by
  intro f hw hf
  cases hf
  simp [Instr.wellFormed, bodyFits] at hw
  exact ⟨hw.1, rfl⟩
theorem setSpaceAlarm (tag : Byte) (body : List Byte) : Statement (.setSpaceAlarm tag body) := by
  intro f hw hf
  cases hf
  simp [Instr.wellFormed, bodyFits] at hw
  exact ⟨hw.1, rfl⟩
theorem setSpaceFloor (tag : Byte) (body : List Byte) : Statement (.setSpaceFloor tag body) := by
  intro f hw hf
  cases hf
  simp [Instr.wellFormed, bodyFits] at hw
  exact ⟨hw.1, rfl⟩
theorem setSpaceHorizon (tag : Byte) (body : List Byte) : Statement (.setSpaceHorizon tag body) := by
  intro f hw hf
  cases hf
  simp [Instr.wellFormed, bodyFits] at hw
  exact ⟨hw.1, rfl⟩
theorem setDefaultRate (tag : Byte) (body : List Byte) : Statement (.setDefaultRate tag body) := by
  intro f hw hf
  cases hf
  simp [Instr.wellFormed, bodyFits] at hw
  exact ⟨hw.1, rfl⟩
theorem setNoticeMask (tag : Byte) (body : List Byte) : Statement (.setNoticeMask tag body) := by
  intro f hw hf
  cases hf
  simp [Instr.wellFormed, bodyFits] at hw
  exact ⟨hw.1, rfl⟩
theorem getSetting (tag : Byte) (body : List Byte) : Statement (.getSetting tag body) := by
  intro f hw hf
  cases hf
  simp [Instr.wellFormed, bodyFits] at hw
  exact ⟨hw, rfl⟩
theorem linkStats (tag : Byte) (body : List Byte) : Statement (.linkStats tag body) := by
  intro f hw hf
  cases hf
  simp [Instr.wellFormed, bodyFits] at hw
  exact ⟨hw, rfl⟩
theorem echo (tag : Byte) (body : List Byte) : Statement (.echo tag body) := by
  intro f hw hf
  cases hf
  simp [Instr.wellFormed, bodyFits] at hw
  exact ⟨hw, rfl⟩
theorem timeReport (tag : Byte) (body : List Byte) : Statement (.timeReport tag body) := by
  intro f hw hf
  cases hf
  simp [Instr.wellFormed, bodyFits] at hw
  exact ⟨hw, rfl⟩
theorem zoneReport (tag : Byte) (body : List Byte) : Statement (.zoneReport tag body) := by
  intro f hw hf
  cases hf
  simp [Instr.wellFormed, bodyFits] at hw
  exact ⟨hw, rfl⟩
theorem queryTime (tag : Byte) (body : List Byte) : Statement (.queryTime tag body) := by
  intro f hw hf
  cases hf
  simp [Instr.wellFormed, bodyFits] at hw
  exact ⟨hw, rfl⟩
theorem muxLoad (tag : Byte) (body : List Byte) : Statement (.muxLoad tag body) := by
  intro f hw hf
  cases hf
  simp [Instr.wellFormed, bodyFits] at hw
  exact ⟨hw, rfl⟩
theorem serviceLoad (tag : Byte) (body : List Byte) : Statement (.serviceLoad tag body) := by
  intro f hw hf
  cases hf
  simp [Instr.wellFormed, bodyFits] at hw
  exact ⟨hw, rfl⟩
theorem muxDrop (tag : Byte) (body : List Byte) : Statement (.muxDrop tag body) := by
  intro f hw hf
  cases hf
  simp [Instr.wellFormed, bodyFits] at hw
  exact ⟨hw, rfl⟩
theorem serviceDrop (tag : Byte) (body : List Byte) : Statement (.serviceDrop tag body) := by
  intro f hw hf
  cases hf
  simp [Instr.wellFormed, bodyFits] at hw
  exact ⟨hw, rfl⟩
theorem guideBatch (tag : Byte) (body : List Byte) : Statement (.guideBatch tag body) := by
  intro f hw hf
  cases hf
  simp [Instr.wellFormed, bodyFits] at hw
  exact ⟨hw, rfl⟩
theorem guideDrop (tag : Byte) (body : List Byte) : Statement (.guideDrop tag body) := by
  intro f hw hf
  cases hf
  simp [Instr.wellFormed, bodyFits] at hw
  exact ⟨hw, rfl⟩
theorem queryEvent (tag : Byte) (body : List Byte) : Statement (.queryEvent tag body) := by
  intro f hw hf
  cases hf
  simp [Instr.wellFormed, bodyFits] at hw
  exact ⟨hw, rfl⟩
theorem bookEvent (tag : Byte) (body : List Byte) : Statement (.bookEvent tag body) := by
  intro f hw hf
  cases hf
  simp [Instr.wellFormed, bodyFits] at hw
  exact ⟨hw, rfl⟩
theorem bookTime (tag : Byte) (body : List Byte) : Statement (.bookTime tag body) := by
  intro f hw hf
  cases hf
  simp [Instr.wellFormed, bodyFits] at hw
  exact ⟨hw, rfl⟩
theorem amend (tag : Byte) (body : List Byte) : Statement (.amend tag body) := by
  intro f hw hf
  cases hf
  simp [Instr.wellFormed, bodyFits] at hw
  exact ⟨hw, rfl⟩
theorem cancel (tag : Byte) (body : List Byte) : Statement (.cancel tag body) := by
  intro f hw hf
  cases hf
  simp [Instr.wellFormed, bodyFits] at hw
  exact ⟨hw, rfl⟩
theorem purge (tag : Byte) (body : List Byte) : Statement (.purge tag body) := by
  intro f hw hf
  cases hf
  simp [Instr.wellFormed, bodyFits] at hw
  exact ⟨hw, rfl⟩
theorem queryBooking (tag : Byte) (body : List Byte) : Statement (.queryBooking tag body) := by
  intro f hw hf
  cases hf
  simp [Instr.wellFormed, bodyFits] at hw
  exact ⟨hw, rfl⟩
theorem listBookings (tag : Byte) (body : List Byte) : Statement (.listBookings tag body) := by
  intro f hw hf
  cases hf
  simp [Instr.wellFormed, bodyFits] at hw
  exact ⟨hw, rfl⟩
theorem linkSeries (tag : Byte) (body : List Byte) : Statement (.linkSeries tag body) := by
  intro f hw hf
  cases hf
  simp [Instr.wellFormed, bodyFits] at hw
  exact ⟨hw, rfl⟩
theorem linkSlot (tag : Byte) (body : List Byte) : Statement (.linkSlot tag body) := by
  intro f hw hf
  cases hf
  simp [Instr.wellFormed, bodyFits] at hw
  exact ⟨hw, rfl⟩
theorem unlink (tag : Byte) (body : List Byte) : Statement (.unlink tag body) := by
  intro f hw hf
  cases hf
  simp [Instr.wellFormed, bodyFits] at hw
  exact ⟨hw, rfl⟩
theorem queryLink (tag : Byte) (body : List Byte) : Statement (.queryLink tag body) := by
  intro f hw hf
  cases hf
  simp [Instr.wellFormed, bodyFits] at hw
  exact ⟨hw, rfl⟩
theorem queryPlan (tag : Byte) (body : List Byte) : Statement (.queryPlan tag body) := by
  intro f hw hf
  cases hf
  simp [Instr.wellFormed, bodyFits] at hw
  exact ⟨hw, rfl⟩
theorem queryClashes (tag : Byte) (body : List Byte) : Statement (.queryClashes tag body) := by
  intro f hw hf
  cases hf
  simp [Instr.wellFormed, bodyFits] at hw
  exact ⟨hw, rfl⟩
theorem liveClaim (tag : Byte) (body : List Byte) : Statement (.liveClaim tag body) := by
  intro f hw hf
  cases hf
  simp [Instr.wellFormed, bodyFits] at hw
  exact ⟨hw, rfl⟩
theorem liveRelease (tag : Byte) (body : List Byte) : Statement (.liveRelease tag body) := by
  intro f hw hf
  cases hf
  simp [Instr.wellFormed, bodyFits] at hw
  exact ⟨hw, rfl⟩
theorem clearFault (tag : Byte) (body : List Byte) : Statement (.clearFault tag body) := by
  intro f hw hf
  cases hf
  simp [Instr.wellFormed, bodyFits] at hw
  exact ⟨hw, rfl⟩
theorem queryTuner (tag : Byte) (body : List Byte) : Statement (.queryTuner tag body) := by
  intro f hw hf
  cases hf
  simp [Instr.wellFormed, bodyFits] at hw
  exact ⟨hw, rfl⟩
theorem runStatus (tag : Byte) (body : List Byte) : Statement (.runStatus tag body) := by
  intro f hw hf
  cases hf
  simp [Instr.wellFormed, bodyFits] at hw
  exact ⟨hw, rfl⟩
theorem begun (tag : Byte) (body : List Byte) : Statement (.begun tag body) := by
  intro f hw hf
  cases hf
  simp [Instr.wellFormed, bodyFits] at hw
  exact ⟨hw.1, rfl⟩
theorem ended (tag : Byte) (body : List Byte) : Statement (.ended tag body) := by
  intro f hw hf
  cases hf
  simp [Instr.wellFormed, bodyFits] at hw
  exact ⟨hw.1, rfl⟩
theorem refusedReport (tag : Byte) (body : List Byte) : Statement (.refusedReport tag body) := by
  intro f hw hf
  cases hf
  simp [Instr.wellFormed, bodyFits] at hw
  exact ⟨hw.1, rfl⟩
theorem faultReport (tag : Byte) (body : List Byte) : Statement (.faultReport tag body) := by
  intro f hw hf
  cases hf
  simp [Instr.wellFormed, bodyFits] at hw
  exact ⟨hw.1, rfl⟩
theorem moved (tag : Byte) (body : List Byte) : Statement (.moved tag body) := by
  intro f hw hf
  cases hf
  simp [Instr.wellFormed, bodyFits] at hw
  exact ⟨hw.1, rfl⟩
theorem hostStateReady (tag : Byte) (body : List Byte) : Statement (.hostStateReady tag body) := by
  intro f hw hf
  cases hf
  simp [Instr.wellFormed, bodyFits] at hw
  exact ⟨hw.1, rfl⟩
theorem hostStateStandby (tag : Byte) (body : List Byte) : Statement (.hostStateStandby tag body) := by
  intro f hw hf
  cases hf
  simp [Instr.wellFormed, bodyFits] at hw
  exact ⟨hw.1, rfl⟩
theorem storageReport (tag : Byte) (body : List Byte) : Statement (.storageReport tag body) := by
  intro f hw hf
  cases hf
  simp [Instr.wellFormed, bodyFits] at hw
  exact ⟨hw, rfl⟩
theorem ackAlarm (tag : Byte) (body : List Byte) : Statement (.ackAlarm tag body) := by
  intro f hw hf
  cases hf
  simp [Instr.wellFormed, bodyFits] at hw
  exact ⟨hw, rfl⟩
theorem fetchNotices (tag : Byte) (body : List Byte) : Statement (.fetchNotices tag body) := by
  intro f hw hf
  cases hf
  simp [Instr.wellFormed, bodyFits] at hw
  exact ⟨hw, rfl⟩
theorem unknownKind (tag kind : Byte) (body : List Byte) : Statement (.unknownKind tag kind body) := by
  intro f hw hf
  cases hf
  simp [Instr.wellFormed, bodyFits] at hw
  exact ⟨hw.1, by simpa using hw.2⟩
theorem frameAssembled : Statement .frameAssembled := by intro f _ hf; cases hf
theorem gapMark : Statement .gapMark := by intro f _ hf; cases hf
theorem replySent : Statement .replySent := by intro f _ hf; cases hf
theorem resetnLow : Statement .resetnLow := by intro f _ hf; cases hf
theorem resetnRelease : Statement .resetnRelease := by intro f _ hf; cases hf
theorem secondEnd : Statement .secondEnd := by intro f _ hf; cases hf
theorem nextChangeTaken : Statement .nextChangeTaken := by intro f _ hf; cases hf
theorem localDayStart : Statement .localDayStart := by intro f _ hf; cases hf
theorem effectiveStartReached (handle : Nat) : Statement (.effectiveStartReached handle) := by intro f _ hf; cases hf
theorem paddedEndUnplaced (handle : Nat) : Statement (.paddedEndUnplaced handle) := by intro f _ hf; cases hf
theorem paddedEndDue (handle : Nat) : Statement (.paddedEndDue handle) := by intro f _ hf; cases hf
theorem undeliveredStartTimeout (handle : Nat) : Statement (.undeliveredStartTimeout handle) := by intro f _ hf; cases hf
theorem effectiveEndReached (handle : Nat) : Statement (.effectiveEndReached handle) := by intro f _ hf; cases hf
theorem accurateSlackEnd (handle : Nat) : Statement (.accurateSlackEnd handle) := by intro f _ hf; cases hf
theorem purgeAgeReached (handle : Nat) : Statement (.purgeAgeReached handle) := by intro f _ hf; cases hf
theorem yieldTimeReached : Statement .yieldTimeReached := by intro f _ hf; cases hf
theorem wakeInstantReached : Statement .wakeInstantReached := by intro f _ hf; cases hf
theorem startTimeout (handle : Nat) : Statement (.startTimeout handle) := by intro f _ hf; cases hf
theorem stopTimeout (handle : Nat) : Statement (.stopTimeout handle) := by intro f _ hf; cases hf
theorem moveTimeout (handle : Nat) : Statement (.moveTimeout handle) := by intro f _ hf; cases hf
theorem holdCompletes (handle : Nat) : Statement (.holdCompletes handle) := by intro f _ hf; cases hf
theorem graceCountComplete (tuner : TunerId) : Statement (.graceCountComplete tuner) := by intro f _ hf; cases hf
theorem lossCountComplete (tuner : TunerId) : Statement (.lossCountComplete tuner) := by intro f _ hf; cases hf
theorem regainCountComplete (tuner : TunerId) : Statement (.regainCountComplete tuner) := by intro f _ hf; cases hf
theorem failoverTest (handle : Nat) : Statement (.failoverTest handle) := by intro f _ hf; cases hf
theorem attemptCountComplete : Statement .attemptCountComplete := by intro f _ hf; cases hf
theorem pauseCountComplete : Statement .pauseCountComplete := by intro f _ hf; cases hf
theorem lockRise (tuner : TunerId) : Statement (.lockRise tuner) := by intro f _ hf; cases hf
theorem lockFall (tuner : TunerId) : Statement (.lockFall tuner) := by intro f _ hf; cases hf
theorem faultLineRise (tuner : TunerId) : Statement (.faultLineRise tuner) := by intro f _ hf; cases hf
theorem faultLineFall (tuner : TunerId) : Statement (.faultLineFall tuner) := by intro f _ hf; cases hf
theorem passEnd : Statement .passEnd := by intro f _ hf; cases hf
theorem byteReceived (data : Byte) (parityBit stopBit underOld : Bool) : Statement (.byteReceived data parityBit stopBit underOld) := by intro f _ hf; cases hf
theorem crystalTick : Statement .crystalTick := by intro f _ hf; cases hf

end Sys2Proof.Laws.Frames
end

