-- ==== Sys2Proof/Laws/Plan.lean ====
section
/-! SUPPORT. Where a plan takes the multiplex of a service from (R23; log 62), and what a failover test reads of the plan (R135). -/

namespace Sys2Proof.Machine

/-- A service the pass read keeps in the plan the multiplex it had at T₀. -/
theorem muxOf_planServices_read (s : State) (p : Pass) (service : Nat) (h : (findService p.services service).isSome = true) :
    muxOf (s.planServices p) service = muxOf p.services service := by
  obtain ⟨v, hv⟩ := Option.isSome_iff_exists.mp h
  simp only [muxOf, State.planServices, findService, List.find?_append] at hv ⊢
  simp [hv]

/-- A service the pass did not read has in the plan the multiplex it has now. -/
theorem muxOf_planServices_new (s : State) (p : Pass) (service : Nat) (h : findService p.services service = none) :
    muxOf (s.planServices p) service = muxOf s.catalogue.services service := by
  simp only [muxOf, State.planServices, findService, List.find?_append] at h ⊢
  simp [h]

/-- A failover test reads the plan less the booking's own occupancy, bookings holding a Move on its tuner (R135; log 36). -/
theorem State.failoverGround_reads (s : State) (h : Nat) : s.failoverReads h (s.failoverGround h) := by
  refine ⟨rfl, rfl, by simp [State.failoverGround, State.groundNow], by simp [State.failoverGround, State.groundNow], _, rfl, fun q => ⟨?_, ?_, ?_⟩⟩
  · intro hk
    simp [hk]
  · intro o y hk ho hm hy
    simp [hk, State.moveTunerOf, ho, hm, hy]
  · intro hk hn
    cases ho : s.orderOf q.handle with
    | none => simp [hk, State.moveTunerOf, ho]
    | some o => rcases hn o ho with hm | hy <;> simp [hk, State.moveTunerOf, ho, *]

end Sys2Proof.Machine
end

