-- ==== Sys2Proof/Laws/Records.lean ====
section
/-! SUPPORT. The bytes the model sends are those of the record tables (11_the_message_link.md): one lemma per coded field and per record. -/

namespace Sys2Proof.Machine

theorem bit_eq (place : Nat) (b : Bool) : bit place b = 2 ^ place * b.toNat := by cases b <;> simp [bit]

theorem Lifecycle.code_byte (x : Lifecycle) : be8 x.code = stateByte x := by cases x <;> rfl

theorem Placement.code_byte (p : Placement) : be8 p.code = placementByte p := by
  rcases p with ⟨x, a, e⟩ | _ | _ <;> first
    | rfl
    | (cases x <;> rfl)

theorem Placement.span_window (p : Placement) : p.spanBytes = windowBytes p := by
  cases p <;> first
    | rfl
    | (show be32 0 ++ be32 0 = List.replicate 8 0; decide)

theorem Causes.code_byte (c : Causes) : be8 c.code = causeByte c := by
  rcases c with ⟨a, b, c, d, e⟩
  revert a b c d e
  decide

theorem Verdict.kind_byte (v : Verdict) : be8 v.kind.code = outcomeByte v := by
  rcases v with ⟨k, r⟩
  cases k <;> rfl

theorem Verdict.reason_byte (v : Verdict) : be8 v.reason.code = reasonByte v := by
  rcases v with ⟨k, r⟩
  cases r <;> rfl

theorem BookingFlags.code_marks (f : BookingFlags) :
    f.code = markNumber [f.orphan, f.paddingTrimmed, f.timedFallback, f.lateStart, f.moved, f.resumed, f.truncated, f.stopUnconfirmed,
      f.gaps] := by
  simp only [BookingFlags.code, bit_eq, markNumber]
  omega

theorem Booking.presence_marks (b : Booking) :
    b.presence = markNumber [b.main.isSome, b.tag.isSome, b.key.isSome, b.stopCause.isSome, b.verdict.isSome, b.actualStart.isSome,
      b.actualStop.isSome] := by
  simp only [Booking.presence, bit_eq, markNumber]
  omega

theorem Booking.bytes_length (b : Booking) : b.bytes.length = 112 := by
  unfold Booking.bytes
  have slots : (((b.alternatives.flatMap Alternative.bytes) ++ List.replicate 48 0#8).take 48).length = 48 := by simp
  have span : b.placement.spanBytes.length = 8 := by cases b.placement <;> rfl
  have two : ∀ n, (be16 n).length = 2 := fun _ => rfl
  have four : ∀ n, (be32 n).length = 4 := fun _ => rfl
  have maybe : ∀ n, (be32? n).length = 4 := fun _ => rfl
  simp only [List.length_append, slots, span, two, four, maybe, List.length_cons, List.length_nil]

theorem Order.bytes_record (o : Order) : o.bytes = orderRecord o := by
  unfold Order.bytes orderRecord
  rcases o with ⟨k, h, t, _, _, _, _, _, _, _, _⟩
  cases k <;> rcases t with _ | (_ | _) <;> rfl

theorem Notice.bytes_record (n : Notice) : n.bytes = noticeRecord n := by
  rcases n with ⟨b, t⟩
  rcases b with ⟨h, ⟨s, p, v, c⟩⟩ | _ | ⟨_, x, _, _⟩ | _ | _ | ⟨x, c, _, _, w⟩ | ⟨x, _, _⟩ | _ | _ | ⟨_, _, c⟩ | _
  all_goals simp only [Notice.bytes, noticeRecord, noticeFields, NoticeBody.code, NoticeBody.subject, NoticeBody.payload,
    BookingReport.causes, Lifecycle.code_byte, Placement.code_byte, Placement.span_window, Causes.code_byte]
  · rcases p with ⟨x, a, e⟩ | _ | _ <;> rcases v with _ | v <;>
      (try simp only [Option.map, Option.getD, ← Verdict.kind_byte, ← Verdict.reason_byte]) <;> rfl
  all_goals first
    | rfl
    | (cases x <;> rfl)
    | (cases x <;> cases c <;> cases w <;> rfl)
    | (cases c <;> rfl)

end Sys2Proof.Machine
end

