-- ==== Sys2Proof/Tests/Slice0.lean ====
section
/-! SUPPORT. Tests: ill-formed commands, single steps on small states, and for each statement a state and operands that meet its
hypotheses, with the values at which its clauses meet. -/

namespace Sys2Proof.Tests

open Sys2Proof Sys2Proof.Machine

set_option Elab.async false

/-! ## Ill-formed commands (R199, R209, R122, R161, 00_scope.md) -/

/-- A body longer than a frame holds. -/
def long : List Byte := List.replicate 241 0

/-- A SetSetting body of an item code. -/
def setBody (code : Byte) : List Byte := [code, 0, 0, 0, 1]

/-- One command of each row with a body of 241 bytes, a handle of 0 or a handle of 65536. -/
def outOfRange : List Instr :=
  [.identify 0 long, .restart 0 long, .setSetting 0 long, .setLinkRate 0 long, .getSetting 0 long, .linkStats 0 long, .echo 0 long,
   .timeReport 0 long, .zoneReport 0 long, .queryTime 0 long, .muxLoad 0 long, .serviceLoad 0 long, .muxDrop 0 long,
   .serviceDrop 0 long, .guideBatch 0 long, .guideDrop 0 long, .queryEvent 0 long, .bookEvent 0 long, .bookTime 0 long,
   .amend 0 long, .cancel 0 long, .purge 0 long, .queryBooking 0 long, .listBookings 0 long, .linkSeries 0 long,
   .linkSlot 0 long, .unlink 0 long, .queryLink 0 long, .queryPlan 0 long, .queryClashes 0 long, .liveClaim 0 long,
   .liveRelease 0 long, .clearFault 0 long, .queryTuner 0 long, .runStatus 0 long, .begun 0 long, .ended 0 long,
   .hostStateReady 0 long, .hostStateStandby 0 long] ++
  [.storageReport 0 long, .ackAlarm 0 long, .fetchNotices 0 long, .unknownKind 0 7 long, .effectiveStartReached 0,
   .paddedEndUnplaced 65536, .paddedEndDue 0, .undeliveredStartTimeout 65536, .effectiveEndReached 0, .accurateSlackEnd 65536,
   .purgeAgeReached 0, .startTimeout 65536, .stopTimeout 0, .moveTimeout 65536, .holdCompletes 0, .failoverTest 65536]

/-- One command of each row that shares its kind code, with the body of another row. -/
def otherRow : List Instr :=
  [.setSetting 0 (setBody 1), .setLinkRate 0 (setBody 2), .setLinkParity 0 (setBody 3), .setRxTrigger 0 (setBody 4),
   .setFeedMode 0 (setBody 8), .setLiveRank 0 (setBody 7), .setPurgeAge 0 (setBody 5), .setAccurateSlack 0 (setBody 12),
   .setRunHold 0 (setBody 11), .setLossHold 0 (setBody 13), .setWakeMode 0 (setBody 15), .setWakeLead 0 (setBody 14),
   .setWakeTimeout 0 (setBody 17), .setSpaceAlarm 0 (setBody 18), .setSpaceFloor 0 (setBody 16), .setSpaceHorizon 0 (setBody 19),
   .setDefaultRate 0 (setBody 21), .setNoticeMask 0 (setBody 20), .begun 0 [0, 1, 1, 0], .ended 0 [0, 1, 2, 0],
   .refusedReport 0 [0, 1, 3, 0], .faultReport 0 [0, 1, 4, 0], .moved 0 [0, 1, 0, 0], .hostStateReady 0 [1, 0],
   .hostStateStandby 0 [0, 0], .unknownKind 0 6 []]

theorem test_outOfRange_is_ill_formed : (outOfRange.map Instr.wellFormed).all (· == false) = true := by decide +kernel

theorem test_otherRow_is_ill_formed : (otherRow.map Instr.wellFormed).all (· == false) = true := by decide +kernel

theorem test_boundaries_are_well_formed :
    ([.echo 0 (List.replicate 240 0), .effectiveStartReached 1, .failoverTest 65535, .setWakeMode 0 (setBody 14), .begun 0 [],
      .setSetting 0 (setBody 4), .hostStateReady 0 [2, 0], .unknownKind 0 7 []].map Instr.wellFormed).all id = true := by decide +kernel

/-! ## Small states -/

/-- The clock is set; two multiplexes, a service on each, an event ahead. -/
def base : State :=
  { State.reset with
    time := { TimeBase.reset with seconds := 100000, clockSet := true, lastDate := some 1 }
    catalogue := ⟨[⟨0, 10, 0⟩, ⟨1, 11, 1⟩], [⟨0, 100, 0, 8000⟩, ⟨1, 101, 1, 0⟩]⟩
    guide := [⟨0, 5, 110000, 3600, some 7, some 8, true⟩] }

/-- A Pending booking on the event, placed around now on tuner A. -/
def bk : Booking :=
  { handle := 1, origin := .event, service := 0, main := some ⟨0, 5⟩, tag := some 7, key := some 8, nominalStart := 99000,
    nominalStop := 103000, prePad := 100, postPad := 100, priority := 8, accurate := false, alternatives := [], state := .pending,
    stopCause := none, placement := .placed .a 98900 103100, verdict := none, actualStart := none, actualStop := none,
    gapSeconds := 0, gapCount := 0, flags := .clear, finishedAt := none, items := .empty, written := none, late := false, replan := false }

/-- An order of the booking. -/
def order (kind : OrderKind) (delivered : Bool) (attempt : Nat) : Order :=
  { kind := kind, handle := 1, tuner := some .a, service := 0, mux := 0, issued := 99000, delivered := delivered,
    attempt := attempt, onRunning := false, elapsed := 20, limit := 20 }

/-- The base state with one booking and its order. -/
def one (b : Booking) (os : List Order) : State := { base with book := ⟨[b], 2⟩, orders := ⟨os, none⟩ }

/-- A booking that is recording, and one that follows running status. -/
def rec1 : Booking := { bk with state := .recording, actualStart := some 99000 }
def acc : Booking := { bk with accurate := true }

theorem base_takes (f : Frame) : base.takes f := ⟨rfl, rfl, Or.inl rfl⟩

theorem one_takes (b : Booking) (os : List Order) (f : Frame) : (one b os).takes f := ⟨rfl, rfl, Or.inl rfl⟩

theorem base_tables : base.tablesHold := by
  unfold State.tablesHold BookingTable.ordered OrderUnit.single NoticeQueue.bounded; decide

theorem one_tables (b : Booking) (os : List Order) (hb : b.handle = 1) (ho : (os.map (·.handle)).Nodup) :
    (one b os).tablesHold := by
  refine ⟨⟨by simp [one], by simp [one], ?_, by simp [one], by simp [one]⟩, ho, ?_⟩
  · intro c hc
    simp only [one, List.mem_singleton] at hc
    subst hc
    omega
  · unfold NoticeQueue.bounded; simp [one, base, State.reset]

theorem one_holds (b : Booking) (os : List Order) (hb : b.handle = 1) : (one b os).booking? b.handle = some b := by
  simp [one, State.booking?, hb]

/-! ## Single steps -/

theorem test_crc : crc16 [0x31, 0x32, 0x33, 0x34, 0x35, 0x36, 0x37, 0x38, 0x39] = 0x29B1#16 := by decide +kernel

/-- The state a step answers. -/
def after (i : Instr) (s : State) : State :=
  match step (s.setPending [i]) with
  | .next t => t
  | _ => .reset

/-- The frame of a request kind with tag 9. -/
def req (kind : Byte) (body : List Byte) : Frame := ⟨9, kind, body⟩

theorem test_identify_sends :
    (after (.identify 9 []) .reset).link.phase = .sending ⟨9, 0x81, .ok, .identify⟩ := by decide +kernel

theorem test_timeReport_sets_the_clock :
    (after (.timeReport 9 (be32 86400)) .reset).time = { TimeBase.reset with
      seconds := 86400, clockSet := true, capture := some ⟨86400, 0, 0⟩, lastDate := some 1 } := by decide +kernel

theorem test_bookEvent_makes_a_record :
    ((after (.bookEvent 9 (be16 0 ++ be16 5 ++ [8, 0, 0, 0, 0, 0, 1])) base).booking? 1).map
      (fun b => (b.nominalStart, b.nominalStop, b.accurate, b.prePad)) = some (110000, 113600, true, 120) := by decide +kernel

theorem test_pass_places_it :
    (((after .passEnd (after (.bookEvent 9 (be16 0 ++ be16 5 ++ [0, 0, 0, 0, 0, 0, 0])) base)).booking? 1).map (·.placement)) =
      some (.placed .a 109880 113900) := by decide +kernel

theorem test_effectiveStart_orders_a_start :
    (after (.effectiveStartReached 1) (one bk [])).orders.orders.map (fun o => (o.kind, o.handle, o.tuner, o.attempt)) =
      [(.start, 1, some .a, 1)] := by decide +kernel

theorem test_begun_asserts_rec :
    (after (.begun 9 (be16 1 ++ [0, 0])) (one { bk with state := .due } [order .start true 1])).lines.rec_ = true := by decide +kernel

theorem test_ended_is_completed :
    ((after (.ended 9 (be16 1 ++ [1, 0])) (one { rec1 with state := .stopping, nominalStop := 99900 } [order .stop true 1])).booking?
      1).map (·.verdict) = some (some ⟨.completed, .scheduled⟩) := by decide +kernel

theorem test_lossCount_begins_a_gap :
    ((after (.lossCountComplete .a) { one rec1 [] with
      monitor := { State.reset.monitor with a := ⟨.locked, false, false, some 0, none, some ⟨2, true⟩, none⟩ } }).booking? 1).map
      (fun b => (b.items.inGap, b.gapCount, b.items.failover)) = some (true, 1, 300) := by decide +kernel

theorem test_secondEnd_counts : (after .secondEnd base).time.seconds = 100001 := by decide +kernel

theorem test_idle_step : (match step base with
    | .next t => t == base
    | _ => false) = true := by decide +kernel

/-! ## The hypotheses of the statements are met

`one b os` takes every request, holds its tables and holds b, whatever b with handle 1 and whatever orders without a repeated handle
(one_meets); each theorem below adds the values a clause asks for. -/

/-- What the statements about a booking ask of the state. -/
def Meets (s : State) (f : Frame) (b : Booking) : Prop :=
  s.takes f ∧ s.lines.resetn = true ∧ s.planner.triggered = false ∧ s.tablesHold ∧ s.booking? b.handle = some b

theorem one_meets (b : Booking) (os : List Order) (f : Frame) (hb : b.handle = 1) (ho : (os.map (·.handle)).Nodup) :
    Meets (one b os) f b :=
  ⟨one_takes b os f, rfl, rfl, one_tables b os hb ho, one_holds b os hb⟩

theorem witness_StepRunsFrontCommand : base.pending = [] := rfl

theorem witness_StepKeeps : base.linesFollow ∧ base.tablesHold ∧ step base = .next base :=
  ⟨by unfold State.linesFollow; decide, base_tables, rfl⟩

theorem witness_RequestCodingAgrees :
    (Instr.ended 9 [255, 255, 1, 0]).wellFormed = true ∧ frameOf (.ended 9 [255, 255, 1, 0]) = some (req 0x49 [255, 255, 1, 0]) ∧
    (Instr.unknownKind 9 255 []).wellFormed = true ∧ frameOf (.unknownKind 9 255 []) = some (req 255 []) := by decide +kernel

theorem witness_FrameBytesAreRead :
    (req 6 []).body.length ≤ 240 ∧ (req 6 (List.replicate 240 0)).body.length ≤ 240 := by decide +kernel

/-- Guide entries with every field at its least and at its greatest value. -/
def leastEntry : BatchEntry := ⟨0, 0, 0, none, none, false, 0, 0, 0⟩

def greatestEntry : BatchEntry := ⟨65535, 4294967295, 131071, some 4294967295, some 4294967295, true, 31, 131071, 255⟩

theorem witness_RequestFieldsAreRead :
    (0 < 65536 ∧ 0 < 4294967296) ∧ (65535 < 65536 ∧ 4294967295 < 4294967296) ∧ leastEntry.fits ∧ greatestEntry.fits ∧
    (List.replicate 16 greatestEntry).length ≤ 16 ∧ (0x07 : Byte).getLsbD 3 = false ∧ (0xFF : Byte).getLsbD 3 = true ∧
    (2 : Byte) ≠ 0 ∧ (2 : Byte) ≠ 1 := by
  refine ⟨by decide, by decide, ?_, ?_, by decide, by decide, by decide, by decide, by decide⟩
  · exact ⟨by decide, by decide, by decide, by decide, by decide, by decide, fun _ h => (nomatch h), fun _ h => (nomatch h)⟩
  · refine ⟨by decide, by decide, by decide, by decide, by decide, by decide, fun x h => ?_, fun x h => ?_⟩ <;>
      (cases h; decide)

/-- The state with the frame of QUERY_TIME all but received, and the start of another frame behind it. -/
def assembling (requests : List Frame) (phase : ServicePhase) (bytes : List Byte) (last : Byte) : State :=
  { base with link := { LinkInterface.reset with
      assembler := .receiving bytes, fifo := [.byte last false, .byte 0xC3 false], requests := requests, phase := phase } }

/-- The bytes of the frame of QUERY_TIME, tag 9, behind the start byte: length, tag, kind and the first check byte; the second. -/
def queryBytes : List Byte := ((Frame.bytes (req 0x12 [])).drop 1).dropLast

def queryLast : Byte := ((Frame.bytes (req 0x12 [])).getLast?).getD 0

theorem witness_FrameAssembledJudges :
    completes (.receiving queryBytes) (.byte queryLast false) = true ∧
    frameOfBytes (queryBytes ++ [queryLast]) = some (req 0x12 [], true) ∧
    frameOfBytes (queryBytes ++ [queryLast + 1]) = some (req 0x12 [], false) ∧
    (∀ p ∈ [([], ServicePhase.idle), ([req 1 []], .holding 1 .live), ([req 1 [], req 1 []], .holding 1 .live)],
      (assembling p.1 p.2 queryBytes queryLast).lines.resetn = true ∧
      (assembling p.1 p.2 queryBytes queryLast).link.phase ≠ .applying) := by decide +kernel

/-- A request is Applying, with a FIFO of n bytes. -/
def applying (fifo : List FifoItem) (gapTimer : Option Nat) : State :=
  { base with link := { LinkInterface.reset with phase := .applying, requests := [req 1 []], fifo := fifo, gapTimer := gapTimer } }

theorem witness_BytesEnterTheFifo :
    entryCount (applying (List.replicate 63 (.byte 0 false)) none).link.fifo < 64 ∧
    64 ≤ entryCount (applying (List.replicate 64 (.byte 0 false)) none).link.fifo ∧
    (applying (List.replicate 64 (.byte 0 false)) none).link.fifo.getLast? ≠ some .overrun ∧
    64 ≤ entryCount (applying (List.replicate 64 (.byte 0 false) ++ [.overrun]) none).link.fifo ∧
    (applying (List.replicate 64 (.byte 0 false) ++ [.overrun]) none).link.fifo.getLast? = some .overrun ∧
    (applying [] none).link.phase = .applying ∧ (applying [] none).lines.resetn = true ∧
    (applying [] (some 328)).lines.rts = true ∧ (applying [] (some 328)).link.gapTimer = some 328 ∧
    (let s := assembling [] .idle queryBytes queryLast
     s.link.phase ≠ .applying ∧ s.link.fifo = [.byte queryLast false, .byte 0xC3 false] ∧
       completes s.link.assembler (.byte queryLast false) = true ∧ completes (.receiving []) (.byte 241 false) = false) := by
  decide +kernel

theorem witness_BytesEnterTheFifo_begun :
    (∀ line ∈ [none, some (⟨115200, true⟩ : LineSettings)], ∀ timer ∈ [none, some 327, some 328],
      (let s : State := { base with link := { LinkInterface.reset with rxLine := line, gapTimer := timer } }
       s.lines.resetn = true ∧ s.link.rxLine = line ∧ s.link.gapTimer = timer)) ∧
    (applying [] (some 327)).link.gapTimer ≠ some 328 ∧
    ({ applying [] (some 328) with lines := { base.lines with rts := false } } : State).lines.rts = false :=
  ⟨fun _ _ _ _ => ⟨rfl, rfl, rfl⟩, by decide, rfl⟩

/-- A reply of seven bytes on TXD, n of them sent. -/
def code9 : Reply := ⟨9, 0x81, .ok, .code⟩

def sendingReply (cts begun : Bool) (n : Nat) (rest : List Frame) : State :=
  { base with
    lines := { base.lines with cts := cts }
    link := { LinkInterface.reset with phase := .sending code9, requests := req 1 [] :: rest, txBegun := begun, txSent := n } }

theorem sendingReply_sends (cts begun : Bool) (n : Nat) (rest : List Frame) : (sendingReply cts begun n rest).sends code9 := rfl

theorem witness_ReplySentTakesTheNext :
    code9.size = some 7 ∧
    (∀ rest : List Frame, (sendingReply true true 6 rest).lines.resetn = true ∧
      (sendingReply true true 6 rest).link.requests = req 1 [] :: rest ∧ (sendingReply true true 6 rest).link.txBegun = true ∧
      (sendingReply true true 6 rest).lines.cts = true ∧ (sendingReply false true 6 rest).link.txBegun = true ∧
      (sendingReply false true 6 rest).link.txSent + 1 = 7) := ⟨rfl, fun _ => ⟨rfl, rfl, rfl, rfl, rfl, rfl⟩⟩

theorem witness_ReplySentTakesTheNext_waits :
    (sendingReply false false 3 []).link.txBegun = false ∧ (sendingReply false true 5 []).lines.cts = false ∧
    (sendingReply false true 5 []).link.txBegun = true ∧ (sendingReply false true 5 []).link.txSent + 1 < 7 ∧
    (let s : State := { sendingReply false false 3 [] with lines := { base.lines with ahead := [[.ctsRise], [.byteSent]] } }
     s.lines.ahead = [.ctsRise] :: [[.byteSent]]) ∧ base.lines.ahead = [] ∧ (code9.frame).isSome = true := by decide +kernel

/-- A reply whose body the spec does not lay out, on TXD with n of its bytes sent and CTS low. -/
def sendingUnlaid (begun : Bool) (n : Nat) : State :=
  { base with
    lines := { base.lines with cts := false }
    link := { LinkInterface.reset with
      phase := .sending ⟨9, 0xAB, .ok, .lifecycle .pending⟩, requests := [req 0x2B (be16 1)], txBegun := begun, txSent := n } }

theorem witness_ReplySentTakesTheNext_unlaid :
    (⟨9, 0xAB, .ok, .lifecycle .pending⟩ : Reply).size = none ∧ (sendingUnlaid true 0).lines.cts = false ∧
    (sendingUnlaid true 0).link.txSent + 1 < 7 ∧ (sendingUnlaid true 6).lines.resetn = true ∧
    7 ≤ (sendingUnlaid true 6).link.txSent + 1 ∧ (sendingUnlaid true 245).link.txSent + 1 = 246 ∧
    after .replySent (sendingUnlaid true 0) = sendingUnlaid true 0 ∧
    (after .replySent (sendingUnlaid true 6)).link.phase = .idle := by decide +kernel

theorem test_tick_takes_what_the_lines_do :
    (let t := after .crystalTick { sendingReply false false 3 [] with lines := { base.lines with cts := false, ahead := [[.ctsRise, .byteSent]] } }
     t.lines.cts && t.link.txBegun && t.link.txSent == 4) = true := by decide +kernel

theorem test_sent_bits_of_a_byte :
    (⟨115200, true⟩ : LineSettings).bits 0x07 = [false, true, true, true, false, false, false, false, false, true, true] ∧
    (⟨115200, false⟩ : LineSettings).bits 0x07 = [false, true, true, true, false, false, false, false, false, true] := by
  decide +kernel

/-- The part held in reset, with the fault line of tuner A as given. -/
def inReset (fault : Bool) : State := { base with lines := { base.lines with resetn := false, faultA := fault } }

theorem witness_ResetnRestartsThePart :
    base.lines.resetn = true ∧ (inReset false).lines.resetn = false ∧ (inReset false).lines.faultA = false ∧
    (inReset false).lines.faultB = false ∧ (inReset true).lines.resetn = false ∧ (inReset true).lines.faultA = true ∧
    (let s := inReset true
     let t := after .resetnRelease { s with lines := { s.lines with faultB := true } }
     t.notices = ⟨[⟨.tunerChange .a .unused true none .fault, 0⟩, ⟨.tunerChange .b .unused true none .fault, 0⟩], false⟩ ∧
       t.lines.attn = true) := by decide +kernel

theorem test_release_latches_a_high_fault_line :
    (let t := after .resetnRelease (inReset true)
     t.monitor.a.faultLatch && t.monitor.a.changeLatch && !t.monitor.b.faultLatch && t.planner.running.isSome) = true := by
  decide +kernel

/-- One body of each kind with coded fields, of an allowed length, whose coded field names no choice. -/
def codedBodies : List (Byte × List Byte) :=
  [(0x11, be16 0 ++ [2] ++ be32 0 ++ be16 0), (0x21, be16 0 ++ [2] ++ be32 0 ++ be32 0), (0x28, be16 0 ++ be16 5 ++ [8, 0, 0, 0, 0, 0, 2]),
   (0x29, be16 0 ++ be32 0 ++ be32 60 ++ [8, 0, 0, 0, 0, 0, 2]), (0x2A, be16 1 ++ [8, 0, 0, 0, 0, 0, 2]), (0x2E, be16 1 ++ [3]),
   (0x30, be32 7 ++ be16 0 ++ [2] ++ [0, 0, 0, 0, 0, 0, 0]), (0x30, be32 7 ++ be16 0 ++ [1] ++ [8, 0, 0, 0, 0, 0, 2]),
   (0x31, be16 0 ++ [1] ++ be16 0 ++ be32 60 ++ [8, 0, 0, 0, 0, 0, 2])] ++
  [(0x32, [0, 2]), (0x38, [2] ++ be32 0 ++ be32 0 ++ [0]), (0x40, [0, 2]), (0x42, [2]), (0x48, be16 0 ++ be16 5 ++ [4]),
   (0x49, be16 1 ++ [5, 0]), (0x50, [2, 0]), (0x50, [1, 2]), (0x54, [2] ++ be32 0)]

theorem witness_WrongFramesAreRefused :
    (Instr.cancel 9 [0]).wellFormed = true ∧ frameOf (.cancel 9 [0]) = some (req 0x2B [0]) ∧ base.takes (req 0x2B [0]) ∧
    Config.kinds.contains (req 0x2B [0]).kind = true ∧ lengthAllowed 0x2B [0] = false ∧ lengthAllowed 0x2B [0, 0, 0] = false ∧
    lengthAllowed 0x06 (List.replicate 240 0) = false ∧ lengthAllowed 0x20 (List.replicate 14 0) = false ∧
    lengthAllowed 0x20 (List.replicate 14 0 ++ [17]) = false ∧ lengthAllowed 0x20 (List.replicate 14 0 ++ [0, 0]) = false ∧
    lengthAllowed 0x20 (List.replicate 14 0 ++ [1] ++ List.replicate 13 0) = true ∧
    (codedBodies.all fun c => lengthAllowed c.1 c.2 && codedWrong c.1 c.2 && (requestOf (req c.1 c.2)).wellFormed &&
      frameOf (requestOf (req c.1 c.2)) == some (req c.1 c.2)) = true ∧ (∀ f, base.takes f) ∧ Config.kinds.contains 7 = false :=
  ⟨by decide +kernel, by decide +kernel, base_takes _, by decide +kernel, by decide +kernel, by decide +kernel, by decide +kernel,
    by decide +kernel, by decide +kernel, by decide +kernel, by decide +kernel, by decide +kernel, base_takes, by decide +kernel⟩

theorem witness_EchoAnswers :
    base.takes (req 0x06 (List.replicate 239 0)) ∧ (List.replicate 239 (0 : Byte)).length ≤ 239 ∧
    base.takes (req 0x06 (List.replicate 240 0)) ∧ (List.replicate 240 (0 : Byte)).length = 240 ∧ base.link.fifo = [] :=
  ⟨base_takes _, by decide +kernel, base_takes _, by decide +kernel, rfl⟩

theorem witness_IdentifyAndLinkStatsAnswer :
    base.takes (req 0x01 []) ∧ base.takes (req 0x05 []) ∧ base.link.fifo = [] ∧
    (let s : State := { base with link := { LinkInterface.reset with fifo := [.byte 0xC3 false, .gap] } }
     s.takes (req 0x05 []) ∧ s.link.fifo ≠ [] ∧ (after (.linkStats 9 []) s).link.counters.timeout = 1) :=
  ⟨base_takes _, base_takes _, rfl, ⟨rfl, rfl, Or.inl rfl⟩, by decide, by decide +kernel⟩

theorem witness_GetSettingAnswers :
    base.takes (req 0x04 [1]) ∧ Config.itemOf 1 = some .linkRate ∧ Config.itemOf 21 = some .noticeMask ∧
    base.takes (req 0x04 [22]) ∧ Config.itemOf 22 = none ∧ Config.itemOf 0 = none :=
  ⟨base_takes _, rfl, rfl, base_takes _, rfl, rfl⟩

theorem witness_SettingsAreStored :
    maxU32 ≤ maxU32 ∧ base.takes ⟨9, 0x03, BitVec.ofNat 8 Config.Item.linkRate.code :: be32 maxU32⟩ ∧
    bringIn 48 .rxTrigger = base.link.settings.read .rxTrigger ∧ bringIn 47 .rxTrigger ≠ 47 ∧
    Config.itemOf 22 = none ∧ base.takes (req 0x03 (22 :: be32 0)) :=
  ⟨by decide, base_takes _, by decide, by decide, rfl, base_takes _⟩

theorem test_setSetting_is_read_back :
    (let t := (after (.setSetting 9 (9 :: be32 120)) base).link.settings
     (t.orderTimeout, t.gapLimit, t.prePadDefault, t.postPadDefault) = (120, 300, 120, 300) ∧ t.read .orderTimeout = 120 ∧
       t.read .gapLimit = 300) ∧ bringIn 5 .orderTimeout = 5 ∧ bringIn 120 .orderTimeout = 120 := by decide +kernel

theorem witness_NewSettingsAct :
    (∀ f, base.takes f) ∧ bringIn 57600 .linkRate ≠ base.link.settings.linkRate ∧
    (bringIn 1 .linkParity == 1) ≠ base.link.settings.parityEven ∧ bringIn 16 .liveRank ≠ base.link.settings.liveRank ∧
    bringIn 1 .feedMode = 1 ∧ base.link.settings.feedMode = .independent ∧
    bringIn 1 .wakeMode = 1 ∧ base.link.settings.wakeOff = false ∧ base.wake.host = .up ∧
    bringIn 0 .spaceAlarm = 0 ∧ base.link.settings.spaceAlarm = true ∧ bringIn 0 .noticeMask ≠ base.link.settings.noticeMask.toNat :=
  ⟨base_takes, by decide +kernel⟩

/-- A state at other settings. -/
def atSettings (s : State) (f : Settings → Settings) : State := s.setLink { s.link with settings := f s.link.settings }

theorem witness_NewSettingsAct_link :
    (applying [] none).link.phase = .applying ∧ base.takes (req 3 (3 :: be32 16)) ∧ base.link.phase = .idle ∧
    ({ applying [] none with link := { (applying [] none).link with requests := [req 3 (3 :: be32 16)] } } : State).takes
      (req 3 (3 :: be32 16)) ∧ bringIn 16 .rxTrigger ≠ base.link.settings.rxTrigger ∧
    bringIn 0 .feedMode = 0 ∧ (atSettings base fun x => { x with feedMode := .loopThrough }).link.settings.feedMode = .loopThrough :=
  ⟨rfl, base_takes _, rfl, ⟨rfl, rfl, Or.inr ⟨rfl, rfl⟩⟩, by decide, by decide, rfl⟩

theorem witness_NewSettingsAct_counts :
    bringIn 1 .purgeAge ≠ base.link.settings.purgeAge ∧
    (let s := one { bk with state := .finished, finishedAt := some 96400 } []
     s.time.clockSet = true ∧ 96400 + bringIn 1 .purgeAge * 3600 ≤ s.time.seconds ∧ s.links = [] ∧ s.takes (req 3 (6 :: be32 1))) ∧
    bringIn 3 .runHold ≠ base.link.settings.runHold ∧ bringIn 0 .accurateSlack ≠ base.link.settings.accurateSlack ∧
    (bringIn 0 .lossHold == 1) ≠ (atSettings base fun x => { x with lossExtended := true }).link.settings.lossExtended ∧
    (let s : State := (atSettings base fun x => { x with lossExtended := true }).setMonitor
       { base.monitor with a := ⟨.locked, false, false, some 0, none, some ⟨2, false⟩, none⟩ }
     s.takes (req 3 (12 :: be32 0)) ∧ (s.tuner .a).condition = .locked ∧ s.lockLine .a = false ∧ (s.tuner .a).loss = some ⟨2, false⟩ ∧
       (s.tuner .b).condition = .unused) :=
  ⟨by decide, ⟨rfl, by decide, rfl, ⟨rfl, rfl, Or.inl rfl⟩⟩, by decide, by decide, by decide,
    ⟨⟨rfl, rfl, Or.inl rfl⟩, rfl, rfl, rfl, rfl⟩⟩

theorem witness_NewSettingsAct_units :
    bringIn 0 .wakeMode = 0 ∧ bringIn 60 .wakeLead ≠ base.link.settings.wakeLead ∧
    bringIn 30 .wakeTimeout ≠ base.link.settings.wakeTimeout ∧
    (∀ h ∈ [HostState.waking1, .waking2, .up], ({ base with wake := { WakeUnit.reset with host := h, attempt := some ⟨30, false⟩ } } : State).takes
      (req 3 (16 :: be32 30))) ∧
    bringIn 0 .spaceFloor ≠ base.link.settings.spaceFloor ∧ bringIn 1 .spaceHorizon ≠ base.link.settings.spaceHorizon ∧
    bringIn 500 .defaultRate ≠ base.link.settings.defaultRate ∧ bringIn 1 .spaceAlarm = 1 ∧
    (let s := atSettings base fun x => { x with wakeOff := true, spaceAlarm := false }
     s.takes (req 3 (14 :: be32 0)) ∧ s.link.settings.wakeOff = true ∧ s.link.settings.spaceAlarm = false ∧ s.wake.host = .up) ∧
    (let s := atSettings { base with wake := { WakeUnit.reset with host := .down } } fun x => { x with wakeOff := true }
     s.takes (req 3 (14 :: be32 0)) ∧ s.wake.host = .down) :=
  ⟨by decide, by decide, by decide, fun _ _ => ⟨rfl, rfl, Or.inl rfl⟩, by decide, by decide, by decide, by decide,
    ⟨⟨rfl, rfl, Or.inl rfl⟩, rfl, rfl, rfl⟩, ⟨⟨rfl, rfl, Or.inl rfl⟩, rfl⟩⟩

/-- Both tuners Locked on low lock lines, with loss counts as given, under LossHold Extended. -/
def losing (a b : Option Nat) : State :=
  { atSettings base fun x => { x with lossExtended := true } with
    monitor := { base.monitor with
      a := ⟨.locked, false, false, some 0, none, a.map fun n => ⟨n, false⟩, none⟩
      b := ⟨.locked, false, false, some 1, none, b.map fun n => ⟨n, false⟩, none⟩ } }

theorem witness_NewSettingsAct_lossHold :
    (∀ p ∈ [(some 2, some 9), (some 2, some 1), (none, some 2), (some 1, none)],
      (losing p.1 p.2).takes (req 3 (12 :: be32 0)) ∧ (losing p.1 p.2).lockLine .a = false ∧ (losing p.1 p.2).lockLine .b = false) ∧
    (bringIn 0 .lossHold == 1) ≠ (losing none none).link.settings.lossExtended ∧
    ((after (.setLossHold 9 (12 :: be32 0)) (losing (some 2) (some 9))).notices.queue.map (·.body)) =
      [.tunerChange .a .lost false (some 0) .loss, .tunerChange .b .lost false (some 1) .loss] ∧
    (let s : State := { base with lines := { base.lines with faultA := true } }
     s.takes (req 3 (7 :: be32 1)) ∧ s.monitor.b.faultLatch = false ∧ s.lines.faultA = true ∧ s.link.settings.feedMode = .independent) :=
  ⟨fun _ _ => ⟨⟨rfl, rfl, Or.inl rfl⟩, rfl, rfl⟩, by decide +kernel, by decide +kernel, ⟨rfl, rfl, Or.inl rfl⟩, rfl, rfl, rfl⟩

theorem witness_NoticesAreOffered :
    let q : List Notice := [⟨.bookingState 1 ⟨.due, .none, none, .none⟩, 5⟩, ⟨.clashFound 2 .none, 5⟩, ⟨.clashCleared 3 .a 5 6, 5⟩]
    (0x7E#7).getLsbD NoticeClass.booking.bit = false ∧ (0x7F#7).getLsbD NoticeClass.storage.bit = true ∧
    (q.any fun x => x.body.stateOf == some 1) = true ∧ (q.any fun x => x.body.clearedOf == some 3) = true ∧
    (q.any fun x => x.body.foundOf == some 2) = true ∧ (q.all fun x => x.body.stateOf != some 2) = true ∧
    (q.all fun x => x.body.clearedOf != some 1 && x.body.foundOf != some 1) = true ∧
    (NoticeBody.seriesFull 1).stateOf = none ∧ (NoticeBody.seriesFull 1).foundOf = none ∧ (NoticeBody.seriesFull 1).clearedOf = none ∧
    (List.replicate 47 (Notice.mk (.seriesFull 1) 5)).length < 48 ∧
    48 ≤ (List.replicate 48 (Notice.mk (.seriesFull 1) 5)).length := by decide +kernel

theorem witness_NoticesAreOffered_same_kind :
    let q : List Notice := [⟨.clashFound 2 .none, 5⟩, ⟨.clashCleared 3 .a 5 6, 5⟩]
    (q.any fun x => x.body.foundOf == some 2) = true ∧ (q.all fun x => x.body.clearedOf != some 2) = true ∧
    (q.any fun x => x.body.clearedOf == some 3) = true ∧ (q.all fun x => x.body.foundOf != some 3) = true := by decide +kernel

/-- The base state at another clock. -/
def clocked (f : TimeBase → TimeBase) : State := base.setTime (f base.time)

theorem clocked_takes (f : TimeBase → TimeBase) (r : Frame) : (clocked f).takes r := ⟨rfl, rfl, Or.inl rfl⟩

theorem witness_TimeReportSteps :
    parseTimeReport (be32 99998) = .ok 99998 ∧ base.takes (req 0x10 (be32 99998)) ∧
    65536 ≤ (((base.time.seconds : Int) - 99998) * 32768 + base.time.sub).natAbs ∧
    (clocked fun t => { t with clockSet := false }).time.clockSet = false ∧
    (clocked fun t => { t with clockSet := false }).takes (req 0x10 (be32 99998)) ∧
    (clocked fun t => { t with nextChange := some ⟨99998, 60⟩ }).time.nextChange = some ⟨99998, 60⟩ ∧
    (clocked fun t => { t with nextChange := some ⟨99999, 60⟩ }).time.nextChange = some ⟨99999, 60⟩ :=
  ⟨rfl, base_takes _, by decide, rfl, clocked_takes _ _, rfl, rfl⟩

/-- Items with a Running instant. -/
def ran : OrderItems := { OrderItems.empty with runningAt := some 99000 }

/-- Bookings that a forward step to 103100 finds past one of their ends, each at its boundary. -/
def stepped : List Booking :=
  [bk, { rec1 with placement := .placed .a 98900 103100 },
   { rec1 with accurate := true, placement := .placed .a 98900 103101, nominalStop := 101300, items := ran },
   { acc with state := .armed, nominalStop := 101300 }, { bk with state := .due }]

theorem witness_TimeReportSteps_bookings :
    parseTimeReport (be32 103100) = .ok 103100 ∧ 65536 ≤ (((base.time.seconds : Int) - 103100) * 32768 + base.time.sub).natAbs ∧
    (∀ x ∈ stepped, Meets (one x [order .start false 1]) (req 0x10 (be32 103100)) x) ∧
    min (bk.nominalStop + bk.postPad) maxU32 ≤ 103100 ∧ 101300 + base.link.settings.accurateSlack ≤ 103100 ∧
    base.time.seconds ≤ 103100 ∧ (one bk [order .start false 1]).orderOf 1 = some (order .start false 1) ∧
    99998 < base.time.seconds ∧ rec1.state ≠ .pending ∧ (one rec1 [order .start false 1]).orderOf 1 = some (order .start false 1) ∧
    (order .start false 1).kind ≠ .move ∧ base.link.settings.noticeMask.getLsbD 5 = true ∧ base.notices.queue.length < 48 := by
  refine ⟨rfl, by decide, ?_, by decide, by decide, by decide, rfl, by decide, by decide, rfl, by decide, by decide, by decide⟩
  intro x hx
  refine one_meets x _ _ ?_ (by decide)
  simp [stepped] at hx
  rcases hx with rfl | rfl | rfl | rfl | rfl <;> rfl

theorem witness_TimeReportSlews :
    parseTimeReport (be32 99999) = .ok 99999 ∧ base.takes (req 0x10 (be32 99999)) ∧ base.time.clockSet = true ∧
    ((((100000 : Nat) : Int) - 99999) * 32768 + (32767 : Nat)).natAbs < 65536 ∧
    (clocked fun t => { t with sub := 32767, capture := some ⟨96399, 0, 0⟩ }).time.capture = some ⟨96399, 0, 0⟩ ∧ 96399 + 3600 ≤ 99999 ∧
    (clocked fun t => { t with sub := 32767, capture := some ⟨96400, 0, 0⟩ }).time.capture = some ⟨96400, 0, 0⟩ ∧ 99999 < 96400 + 3600 :=
  ⟨rfl, base_takes _, rfl, by decide, rfl, by decide, rfl, by decide⟩

theorem witness_QueryTimeAnswers : base.takes (req 0x12 []) := base_takes _

theorem witness_SecondsAreCounted :
    base.lines.resetn = true ∧ base.planner.triggered = false ∧ base.time.hold = 0 ∧ base.time.sub ≠ 32767 ∧
    (∀ rts ∈ [true, false], ∀ n ∈ [0, 327, 328],
      (let s : State := { applying [] (some n) with lines := { base.lines with rts := rts } }
       s.lines.resetn = true ∧ s.lines.rts = rts ∧ s.link.gapTimer = some n)) ∧
    0 < (clocked fun t => { t with hold := 1 }).time.hold ∧ (clocked fun t => { t with sub := 32767 }).time.sub = 32767 ∧
    (-255 : Int) ≤ -255 ∧ (255 : Int) ≤ 255 ∧
    ({ base with monitor := { base.monitor with a := { Tuner.reset with grace := some 9 } } } : State).monitor.a.grace = some 9 ∧
    ({ base with wake := { WakeUnit.reset with attempt := some ⟨179, false⟩ } } : State).wake.attempt = some ⟨179, false⟩ := by decide +kernel

set_option maxRecDepth 20000 in
theorem witness_ZoneChangesAreTaken :
    parseZoneReport (be16 840 ++ [1] ++ be32 100000 ++ be16 60) = .ok ⟨840, some (100000, 60)⟩ ∧
    base.takes (req 0x11 (be16 840 ++ [1] ++ be32 100000 ++ be16 60)) ∧ base.time.clockSet = true ∧ 100000 ≤ base.time.seconds ∧
    parseZoneReport (be16 840 ++ [1] ++ be32 100001 ++ be16 60) = .ok ⟨840, some (100001, 60)⟩ ∧ base.time.seconds < 100001 ∧
    roundZone 840 = 840 ∧ roundZone 841 = 840 ∧ roundZone (-721) = -720 ∧ (840 : Int) < 841 ∧ (-721 : Int) < -720 ∧
    (clocked fun t => { t with nextChange := some ⟨100000, 60⟩ }).time.nextChange = some ⟨100000, 60⟩ ∧ (-720 : Int) ≤ -720 :=
  ⟨rfl, base_takes _, rfl, by decide, rfl, by decide, by decide, by decide, by decide, by decide, by decide, rfl, by decide⟩

/-- The booking of a slot link's entry, at 105000; with minute 300 of day 1 its window begins at 104400. -/
def slotted : Booking := { bk with origin := .slot 3, main := none, nominalStart := 105000, nominalStop := 108600 }

theorem witness_ZoneChangesAreTaken_retimes :
    (one slotted []).tablesHold ∧ (one slotted []).booking? 1 = some slotted ∧ slotted.state = .pending ∧ slotted.origin = .slot 3 ∧
    base.time.seconds < slotted.nominalStart ∧ toUtc base.time.zone base.time.nextChange 1 300 = some 104400 ∧
    base.time.seconds < 104400 ∧ 104400 ≠ slotted.nominalStart ∧ 104400 + 3600 ≤ maxU32 ∧
    toUtc base.time.zone base.time.nextChange 1 310 = some slotted.nominalStart :=
  ⟨one_tables _ [] rfl (by decide), rfl, rfl, rfl, by decide, by decide, by decide, by decide, by decide, by decide⟩

theorem witness_LocalDayStarts :
    base.time.clockSet = true ∧ (clocked fun t => { t with lastDate := some 0 }).time.lastDate = some 0 ∧
    (0 : Int) < ((base.time.seconds : Int) + 60 * base.time.zone) / 86400 := by decide +kernel

/-- The base state with one booking on service 0, pinned. -/
def pinned : State := one { bk with state := .due } []

theorem witness_CatalogueIsLoaded :
    parseMuxLoad (be16 12 ++ [3]) = .ok (12, 3) ∧ parseMuxLoad (be16 12 ++ [4]) = .ok (12, 4) ∧ (∀ f, base.takes f) ∧
    (base.catalogue.muxes.all fun m => m.id != 12) = true ∧ firstFree (base.catalogue.muxes.map (·.index)) 0 128 = some 2 ∧
    (base.catalogue.muxes.find? fun m => m.id == 10) = some ⟨0, 10, 0⟩ ∧ pinned.takes (req 0x18 (be16 10 ++ [3])) ∧
    pinned.muxPinned 0 = true ∧ base.muxPinned 0 = false ∧
    parseServiceLoad (be16 102 ++ [1] ++ be16 40000) = .ok ⟨102, 1, 40000⟩ ∧ findMux base.catalogue.muxes 2 = none ∧
    (base.catalogue.services.find? fun v => v.number == 100) = some ⟨0, 100, 0, 8000⟩ ∧ pinned.servicePinned 0 = true ∧
    base.servicePinned 0 = false :=
  ⟨rfl, rfl, base_takes, by decide, by decide +kernel, by decide, one_takes _ _ _, by decide, by decide, rfl, by decide, by decide,
    by decide, by decide⟩

/-- The base state with every multiplex index and every service index taken. -/
def fullCatalogue : State := { base with catalogue :=
  ⟨(List.range 128).map fun i => ⟨i, i + 1000, 0⟩, (List.range 512).map fun i => ⟨i, i + 1000, 1, 0⟩⟩ }

theorem witness_CatalogueIsLoaded_full :
    (∀ f, fullCatalogue.takes f) ∧ (∀ m ∈ fullCatalogue.catalogue.muxes, m.id ≠ 12) ∧
    (∀ i, i < 128 → ∃ m ∈ fullCatalogue.catalogue.muxes, m.index = i) ∧
    (∀ v ∈ fullCatalogue.catalogue.services, v.number ≠ 102) ∧
    (∀ i, i < 512 → ∃ v ∈ fullCatalogue.catalogue.services, v.index = i) ∧
    (findMux fullCatalogue.catalogue.muxes 1).isSome = true := by
  refine ⟨fun _ => ⟨rfl, rfl, Or.inl rfl⟩, fun x hx => ?_, fun i hi => ⟨⟨i, i + 1000, 0⟩, ?_, rfl⟩, fun x hx => ?_,
    fun i hi => ⟨⟨i, i + 1000, 1, 0⟩, ?_, rfl⟩, by decide +kernel⟩ <;>
    simp only [fullCatalogue, List.mem_map, List.mem_range] at *
  · obtain ⟨i, _, rfl⟩ := hx
    show i + 1000 ≠ 12
    omega
  · exact ⟨i, hi, rfl⟩
  · obtain ⟨i, _, rfl⟩ := hx
    show i + 1000 ≠ 102
    omega
  · exact ⟨i, hi, rfl⟩

theorem witness_MuxDropFreesTheIndex :
    (∀ f, base.takes f) ∧ findMux base.catalogue.muxes 2 = none ∧ (findMux base.catalogue.muxes 1).isSome = true ∧
    (base.catalogue.services.any fun v => v.mux == 1) = true ∧
    (let s : State := { base with catalogue := ⟨base.catalogue.muxes, []⟩, monitor := { base.monitor with live := some ⟨1, .a, none⟩ } }
     s.takes (req 0x1A [1]) ∧ (findMux s.catalogue.muxes 1).isSome = true ∧ s.catalogue.services = [] ∧
       s.monitor.live = some ⟨1, .a, none⟩ ∧ (findMux s.catalogue.muxes 0).isSome = true) :=
  ⟨base_takes, by decide, by decide, by decide, ⟨rfl, rfl, Or.inl rfl⟩, by decide, rfl, rfl, by decide⟩

theorem witness_DropsRemoveEvents :
    parseWord (be16 0) = .ok 0 ∧ (∀ f, base.takes f) ∧ (findService base.catalogue.services 0).isSome = true ∧
    base.serviceHeld 0 = false ∧ pinned.serviceHeld 0 = true ∧ pinned.takes (req 0x1B (be16 0)) ∧
    findService base.catalogue.services 2 = none ∧
    parseGuideDrop (be16 0 ++ [1] ++ be32 0 ++ be32 0) = .ok ⟨0, none⟩ ∧
    parseGuideDrop (be16 0 ++ [0] ++ be32 110000 ++ be32 110000) = .ok ⟨0, some (110000, 110000)⟩ ∧
    parseGuideDrop (be16 0 ++ [0] ++ be32 110001 ++ be32 110000) = .ok ⟨0, some (110001, 110000)⟩ :=
  ⟨rfl, base_takes, by decide, by decide, by decide, one_takes _ _ _, by decide, rfl, rfl, rfl⟩

/-- Bookings of a series on the event, with an alternative that has not ended, one that ends now, and none; one that lists the event. -/
def serial (rest : List Alternative) : Booking := { bk with origin := .series 47, alternatives := rest }

def listing : Booking := { bk with main := some ⟨1, 9⟩, alternatives := [⟨0, 5, 110000, 113600⟩, ⟨1, 6, 99000, 99999⟩] }

theorem witness_DropsRemoveEvents_bookings :
    (∀ x ∈ [serial [⟨1, 6, 100200, 100201⟩], serial [⟨1, 6, 99000, 100000⟩], serial [], bk, listing,
        { serial [⟨1, 6, 100200, 100201⟩] with state := .armed }],
      (one x []).tablesHold ∧ (one x []).booking? x.handle = some x ∧ (one x []).links = [] ∧ (x.state = .pending ∨ x.state = .armed)) ∧
    bk.main = some ⟨0, 5⟩ ∧ base.time.seconds < 100201 ∧ base.time.seconds < 100200 - bk.prePad := by
  refine ⟨?_, rfl, by decide, by decide⟩
  intro x hx
  have hb : x.handle = 1 ∧ (x.state = .pending ∨ x.state = .armed) := by
    simp at hx
    rcases hx with rfl | rfl | rfl | rfl | rfl | rfl <;> decide
  exact ⟨one_tables x [] hb.1 (by decide), one_holds x [] hb.1, rfl, hb.2⟩

/-- A guide batch of service 0 with one entry: event 6 of 60 seconds at its start. -/
def batch1 : List Byte :=
  be16 0 ++ be32 100000 ++ be32 100000 ++ be32 120000 ++ [1] ++ be16 6 ++ be32 0 ++ [0, 0, 60, 0, 0, 0, 0]

theorem witness_GuideBatchIsStored :
    (match parseGuideBatch batch1 with
      | .ok b => b.allowed base.catalogue.services && decide (base.guide.length + b.events.length ≤ 4096)
      | _ => false) = true ∧
    (match parseGuideBatch (be16 2 ++ batch1.drop 2) with
      | .ok b => b.allowed base.catalogue.services == false
      | _ => false) = true ∧ base.takes (req 0x20 batch1) ∧ batch1.length ≤ 240 :=
  ⟨by decide +kernel, by decide +kernel, base_takes _, by decide⟩

theorem witness_GuideBatchIsStored_bookings :
    (∀ x ∈ [bk, { bk with state := .armed }, listing],
      (one x []).tablesHold ∧ (one x []).booking? x.handle = some x ∧ (one x []).links = []) ∧
    min (99840 + 60 + bk.postPad) maxU32 ≤ base.time.seconds ∧ base.time.seconds < min (99841 + 60 + bk.postPad) maxU32 ∧
    base.time.seconds < 100101 - bk.prePad ∧ (99940 + 60 ≤ base.time.seconds) ∧ ¬ (99941 + 60 ≤ base.time.seconds) ∧
    (listing.alternatives.any fun a => a.service == 0 && a.id == 5) = true ∧
    ([⟨0, 1, 5, 6⟩, ⟨0, 2, 5, 7⟩, ⟨0, 3, 6, 7⟩] : List Alternative).map (·.start) = [5, 5, 6] ∧
    (insertAlternative ⟨1, 1, 5, 9⟩ [⟨0, 1, 5, 6⟩, ⟨0, 2, 5, 7⟩, ⟨0, 3, 6, 7⟩]).map (·.id) = [1, 2, 1, 3] := by
  refine ⟨?_, by decide⟩
  intro x hx
  have hb : x.handle = 1 := by
    simp at hx
    rcases hx with rfl | rfl | rfl <;> rfl
  exact ⟨one_tables x [] hb (by decide), one_holds x [] hb, rfl⟩

theorem witness_GuideBatchIsStored_truncates :
    (let s : State := { base with guide := List.replicate 4096 ⟨1, 1, 200000, 60, none, none, false⟩ }
     s.guide.length) = 4096 ∧
    ({ base with guide := List.replicate 4096 ⟨1, 1, 200000, 60, none, none, false⟩ } : State).takes (req 0x20 batch1) :=
  ⟨List.length_replicate, rfl, rfl, Or.inl rfl⟩

/-- A batch of service 0 from time 0 on with one entry, of id, offset, duration, repeats, spacing and step as given (R28). -/
def batchOf (id offset duration repeats spacing step : Nat) : Batch :=
  ⟨0, 0, 5, 5, [⟨id, offset, duration, none, some 8, true, repeats, spacing, step⟩]⟩

theorem witness_GuideBatchIsStored_checks :
    (let ok := fun (b : Batch) => b.allowed base.catalogue.services
     ok (batchOf 65534 0 86400 1 60 1) = true ∧ ok (batchOf 65535 0 86400 1 60 1) = false ∧ ok (batchOf 1 0 86401 0 0 0) = false ∧
     ok (batchOf 1 0 60 0 59 0) = true ∧ ok (batchOf 1 0 60 1 59 1) = false ∧ ok (batchOf 1 0 60 1 86400 1) = true ∧
     ok (batchOf 1 0 60 1 86401 1) = false ∧ ok (batchOf 1 0 60 1 60 0) = false ∧ ok (batchOf 1 4294967235 60 0 0 0) = true ∧
     ok (batchOf 1 4294967236 60 0 0 0) = false ∧ ok { batchOf 1 0 60 0 0 0 with from_ := 6 } = false ∧
     ok { batchOf 1 0 60 0 0 0 with service := 2 } = false) ∧
    ((batchOf 1 0 60 1 100 2).events.map fun e => (e.id, e.start, e.key)) = [(1, 0, some 8), (3, 100, none)] ∧
    (batchOf 1 0 0 31 100 2).events = [] ∧ (batchOf 1 0 0 31 100 2).skipped = 32 := by decide +kernel

/-- A record with every field used, and its bytes as the booking record's table lays them out. -/
def recorded : Booking :=
  { bk with
    origin := .series 47, service := 258, accurate := true, alternatives := [⟨1, 9, 1, 2⟩], state := .finished,
    stopCause := some .standby, placement := .unplaced ⟨true, false, false, false, true⟩, verdict := some ⟨.missed, .unlinked⟩,
    actualStart := some 3, actualStop := some 4, gapSeconds := 5, gapCount := 6, finishedAt := some 7
    flags := { BookingFlags.clear with orphan := true, gaps := true } }

theorem test_booking_record :
    recorded.bytes =
      [0, 1, 2, 47, 1, 2, 0x7F, 0, 5, 0, 0, 0, 7, 0, 0, 0, 8] ++ be32 99000 ++ be32 103000 ++ [0, 100, 0, 100, 8, 1, 5, 4, 2] ++
        [0, 0, 0, 0, 0, 0, 0, 0, 17, 2, 13, 0, 0, 0, 3, 0, 0, 0, 4, 0, 5, 0, 6, 1, 1, 0, 0, 0, 7, 1] ++
        [0, 1, 0, 9, 0, 0, 0, 1, 0, 0, 0, 2] ++ List.replicate 36 0 ∧
    ((List.range 112).map fun i => bk.bytes.getD i 0).drop 31 =
      [0, 0, 0] ++ be32 98900 ++ be32 103100 ++ List.replicate 70 0 ∧ bk.bytes.length = 112 ∧ recorded.bytes.length = 112 := by
  decide +kernel

theorem witness_QueriesAnswer :
    (∀ f, base.takes f) ∧ parseEventRef (be16 0 ++ be16 5) = .ok ⟨0, 5⟩ ∧ findEvent base.guide ⟨0, 5⟩ = base.guide.head? ∧
    findEvent base.guide ⟨0, 6⟩ = none ∧ findService base.catalogue.services 2 = none ∧
    parseWord (be16 0) = .ok 0 ∧ parseWord (be16 1) = .ok 1 ∧ base.booking? 1 = none ∧ (one bk []).booking? 1 = some bk ∧
    parseListBookings (be16 1 ++ [0]) = .ok (1, .any) ∧ parseListBookings (be16 1 ++ [2]) = .ok (1, .finished) ∧
    base.link? 47 = none ∧ ({ base with links := [⟨47, 8, 0, 0, false, false, .series 1 none .all []⟩] } : State).link? 47 =
      some ⟨47, 8, 0, 0, false, false, .series 1 none .all []⟩ ∧
    parseQueryPlan ([0] ++ be32 5 ++ be32 5 ++ [0]) = .ok ⟨.a, 5, 5, 0⟩ ∧ parseQueryPlan ([0] ++ be32 6 ++ be32 5 ++ [0]) = .ok ⟨.a, 6, 5, 0⟩ :=
  ⟨base_takes, rfl, by decide, by decide, by decide, rfl, rfl, rfl, rfl, rfl, rfl, rfl, rfl, rfl, rfl⟩

/-- A table of the handles 1 to n. -/
def full (n : Nat) (b : Booking := bk) : State := { base with book := ⟨(List.range n).map fun i => { b with handle := i + 1 }, 1⟩ }

theorem full_tables (n : Nat) {b : Booking} (h : n ≤ 128) : (full n b).tablesHold := by
  refine ⟨⟨?_, by simpa [full] using h, ?_, by simp [full], by simp [full]⟩, base_tables.2.1, base_tables.2.2⟩
  · simp only [full, List.map_map]
    exact List.Pairwise.map _ (fun a b hab => by simpa using hab) List.pairwise_lt_range
  · intro b hb
    simp only [full, List.mem_map, List.mem_range] at hb
    obtain ⟨i, hi, rfl⟩ := hb
    exact ⟨by simp, by simp; omega⟩

theorem witness_NewHandlesAreFree :
    (full 127).tablesHold ∧ (full 127).book.records.length < 128 ∧ (full 128).tablesHold ∧ 128 ≤ (full 128).book.records.length :=
  ⟨full_tables _ (by decide), by simp [full], full_tables _ (by decide), by simp [full]⟩

/-- A full table of time bookings of other windows, where BOOK_TIME finds no room. -/
def fullOfTimes : State := { base with
  book := ⟨(List.range 128).map fun i => { bk with handle := i + 1, origin := .time, main := none }, 1⟩ }

theorem witness_NewHandlesAreFree_noSpace :
    parseBookTime (be16 0 ++ be32 99000 ++ be32 86400 ++ [0, 0, 0, 0, 0, 0, 0]) = .ok (⟨0, 99000, 86400⟩, ⟨none, none, none, none⟩) ∧
    fullOfTimes.takes (req 0x29 (be16 0 ++ be32 99000 ++ be32 86400 ++ [0, 0, 0, 0, 0, 0, 0])) ∧
    (findService fullOfTimes.catalogue.services 0).isSome = true ∧ 99000 + 86400 ≤ maxU32 ∧
    ¬ (fullOfTimes.time.clockSet = true ∧ 99000 + 86400 ≤ fullOfTimes.time.seconds) ∧
    (∀ b ∈ fullOfTimes.book.records, b.origin = .time ∧ b.nominalStart = 99000 ∧ b.nominalStop ≠ 99000 + 86400) ∧
    fullOfTimes.book.records.length = 128 := by
  refine ⟨rfl, ⟨rfl, rfl, Or.inl rfl⟩, by decide, by decide, by decide, ?_, by simp [fullOfTimes]⟩
  intro b hb
  simp only [fullOfTimes, List.mem_map] at hb
  obtain ⟨i, _, rfl⟩ := hb
  exact ⟨rfl, rfl, (by decide : (103000 : Nat) ≠ 99000 + 86400)⟩

theorem witness_BookTimeCreates :
    parseBookTime (be16 0 ++ be32 99940 ++ be32 61 ++ [0, 0, 0, 0, 0, 0, 0]) = .ok (⟨0, 99940, 61⟩, ⟨none, none, none, none⟩) ∧
    base.takes (req 0x29 (be16 0 ++ be32 99940 ++ be32 61 ++ [0, 0, 0, 0, 0, 0, 0])) ∧ base.tablesHold ∧
    (findService base.catalogue.services 0).isSome = true ∧ 60 ≤ 61 ∧ 61 ≤ 86400 ∧ 99940 + 61 ≤ maxU32 ∧
    ¬ (base.time.clockSet = true ∧ 99940 + 61 ≤ base.time.seconds) ∧ base.book.records = [] :=
  ⟨rfl, base_takes _, base_tables, by decide, by decide, by decide, by decide, by decide, rfl⟩

/-- A time booking of the window that the bodies of the next theorem ask for. -/
def timed (stop : Nat) : Booking := { bk with origin := .time, main := none, nominalStart := 99940, nominalStop := stop }

theorem witness_BookTimeCreates_refuses :
    parseBookTime (be16 2 ++ be32 99940 ++ be32 61 ++ [0, 0, 0, 0, 0, 0, 0]) = .ok (⟨2, 99940, 61⟩, ⟨none, none, none, none⟩) ∧
    parseBookTime (be16 0 ++ be32 99940 ++ be32 59 ++ [0, 0, 0, 0, 0, 0, 0]) = .ok (⟨0, 99940, 59⟩, ⟨none, none, none, none⟩) ∧
    parseBookTime (be16 0 ++ be32 99940 ++ be32 60 ++ [0, 0, 0, 0, 0, 0, 0]) = .ok (⟨0, 99940, 60⟩, ⟨none, none, none, none⟩) ∧
    (∀ f, base.takes f) ∧ findService base.catalogue.services 2 = none ∧ base.time.clockSet = true ∧
    99940 + 60 ≤ base.time.seconds ∧ base.time.seconds < 99940 + 61 ∧ (∀ f, (one (timed 100001) []).takes f) ∧
    (one (timed 100001) []).book.records = [timed 100001] ∧ (timed 100001).nominalStop = 99940 + 61 ∧
    (timed 100001).origin = .time ∧ (timed 100001).state ≠ .finished :=
  ⟨rfl, rfl, rfl, base_takes, by decide, rfl, by decide, by decide, one_takes _ _, rfl, rfl, rfl, by decide⟩

theorem witness_BookTimeCreates_adjusts :
    parseBookTime (be16 0 ++ be32 99940 ++ be32 61 ++ [7, 15, 14, 16, 28, 32, 0]) =
      .ok (⟨0, 99940, 61⟩, ⟨some 15, some 3600, some 7200, none⟩) ∧
    parseBookTime (be16 0 ++ be32 99940 ++ be32 61 ++ [7, 16, 14, 17, 28, 33, 0]) =
      .ok (⟨0, 99940, 61⟩, ⟨some 16, some 3601, some 7201, none⟩) ∧
    parseBookTime (be16 0 ++ be32 99940 ++ be32 61 ++ [8, 0, 0, 0, 0, 0, 1]) =
      .ok (⟨0, 99940, 61⟩, ⟨none, none, none, some true⟩) := ⟨rfl, rfl, rfl⟩

theorem witness_BookEventCreates :
    parseBookEvent (be16 0 ++ be16 5 ++ [15, 255, 255, 255, 255, 255, 1]) =
      .ok (⟨0, 5⟩, ⟨some 255, some 65535, some 65535, some true⟩) ∧
    base.takes (req 0x28 (be16 0 ++ be16 5 ++ [15, 255, 255, 255, 255, 255, 1])) ∧ base.tablesHold ∧
    findEvent base.guide ⟨0, 5⟩ = some ⟨0, 5, 110000, 3600, some 7, some 8, true⟩ ∧
    ¬ (base.time.clockSet = true ∧ 110000 + 3600 ≤ base.time.seconds) ∧ base.book.records = [] :=
  ⟨rfl, base_takes _, base_tables, by decide, by decide, rfl⟩

/-- The base state with another guide event: of a duration, at a start, capable or not. -/
def withEvent (start duration : Nat) (capable : Bool) : State :=
  { base with guide := [⟨0, 5, start, duration, none, none, capable⟩] }

theorem witness_BookEventCreates_refuses :
    (∀ f, base.takes f) ∧ findService base.catalogue.services 2 = none ∧ findEvent base.guide ⟨0, 6⟩ = none ∧
    (∀ e ∈ [(99941, 59), (99940, 60), (99941, 60)], (∀ f, (withEvent e.1 e.2 true).takes f) ∧
      findEvent (withEvent e.1 e.2 true).guide ⟨0, 5⟩ = some ⟨0, 5, e.1, e.2, none, none, true⟩) ∧
    99940 + 60 ≤ base.time.seconds ∧ base.time.seconds < 99941 + 60 ∧
    (∀ f, (one bk []).takes f) ∧ bk.main = some ⟨0, 5⟩ ∧ bk.state ≠ .finished ∧ (one bk []).guide = base.guide ∧
    (let s := full 128 { bk with main := some ⟨1, 1⟩ }
     (∀ f, s.takes f) ∧ s.tablesHold ∧ (∀ b ∈ s.book.records, b.main ≠ some ⟨0, 5⟩) ∧ 128 ≤ s.book.records.length) := by
  refine ⟨base_takes, by decide, by decide, fun e he => ⟨fun _ => ⟨rfl, rfl, Or.inl rfl⟩, ?_⟩, by decide, by decide, one_takes _ _,
    rfl, by decide, rfl, fun _ => ⟨rfl, rfl, Or.inl rfl⟩, full_tables _ (by decide), ?_, by simp [full]⟩
  · simp at he
    rcases he with rfl | rfl | rfl <;> decide
  · intro b hm
    simp only [full, List.mem_map] at hm
    obtain ⟨c, _, rfl⟩ := hm
    simp

theorem witness_BookEventCreates_adjusts :
    parseBookEvent (be16 0 ++ be16 5 ++ [15, 15, 14, 16, 28, 32, 1]) = .ok (⟨0, 5⟩, ⟨some 15, some 3600, some 7200, some true⟩) ∧
    findEvent (withEvent 110000 3600 false).guide ⟨0, 5⟩ = some ⟨0, 5, 110000, 3600, none, none, false⟩ ∧
    (withEvent 110000 3600 false).tablesHold := ⟨rfl, by decide, base_tables⟩

theorem witness_BookEventCreates_takes_alternatives :
    (one listing []).takes (req 0x28 (be16 0 ++ be16 5 ++ [15, 255, 255, 255, 255, 255, 1])) ∧ (one listing []).tablesHold ∧
    findEvent (one listing []).guide ⟨0, 5⟩ = some ⟨0, 5, 110000, 3600, some 7, some 8, true⟩ ∧ listing.main ≠ some ⟨0, 5⟩ ∧
    (listing.alternatives.any fun a => a.service == 0 && a.id == 5) = true ∧ (one listing []).book.records.length < 128 ∧
    ((after (.bookEvent 9 (be16 0 ++ be16 5 ++ [15, 255, 255, 255, 255, 255, 1])) (one listing [])).booking? 1).map (·.alternatives) =
      some [⟨1, 6, 99000, 99999⟩] :=
  ⟨one_takes _ _ _, one_tables _ [] rfl (by decide), by decide, by decide, by decide, by decide, by decide +kernel⟩

theorem witness_AmendStores :
    parseAmend (be16 1 ++ [15, 9, 0, 60, 0, 60, 0]) = .ok (1, ⟨some 9, some 60, some 60, some false⟩) ∧
    (∀ x ∈ [bk, { acc with state := .armed }, { bk with state := .due }, { bk with state := .stopping },
        { bk with state := .finished }, { bk with state := .recording }, { bk with placement := .unplaced .none }],
      Meets (one x []) (req 0x2A (be16 1 ++ [15, 9, 0, 60, 0, 60, 0])) x) ∧
    ¬ (min (bk.nominalStop + 60) maxU32 ≤ base.time.seconds) := by
  refine ⟨rfl, ?_, by decide⟩
  intro x hx
  refine one_meets x [] _ ?_ (by decide)
  simp at hx
  rcases hx with rfl | rfl | rfl | rfl | rfl | rfl | rfl <;> rfl

/-- A recording booking whose effective end is its padded end, a little ahead. -/
def shortRec : Booking := { rec1 with nominalStop := 99950, placement := .placed .a 98900 100050 }

theorem witness_AmendStores_ends :
    parseAmend (be16 1 ++ [4, 0, 0, 0, 0, 50, 0]) = .ok (1, ⟨none, none, some 50, none⟩) ∧
    parseAmend (be16 1 ++ [4, 0, 0, 0, 0, 200, 0]) = .ok (1, ⟨none, none, some 200, none⟩) ∧
    parseAmend (be16 1 ++ [5, 16, 0, 0, 0, 0, 0]) = .ok (1, ⟨some 16, none, some 0, none⟩) ∧
    Meets (one shortRec []) (req 0x2A (be16 1 ++ [4, 0, 0, 0, 0, 50, 0])) shortRec ∧
    Meets (one { shortRec with placement := .placed .a 98900 100051 } []) (req 0x2A (be16 1 ++ [4, 0, 0, 0, 0, 50, 0]))
      { shortRec with placement := .placed .a 98900 100051 } ∧
    100050 = min (shortRec.nominalStop + shortRec.postPad) maxU32 ∧ min (shortRec.nominalStop + 50) maxU32 ≤ base.time.seconds ∧
    100050 < min (shortRec.nominalStop + 200) maxU32 ∧ base.time.seconds ≤ 100050 ∧
    (let x : Booking := { bk with placement := .unplaced .none, nominalStop := 100000 }
     Meets (one x []) (req 0x2A (be16 1 ++ [5, 16, 0, 0, 0, 0, 0])) x ∧ min (x.nominalStop + 0) maxU32 ≤ base.time.seconds) :=
  ⟨rfl, rfl, rfl, one_meets _ _ _ rfl (by decide), one_meets _ _ _ rfl (by decide), by decide, by decide, by decide, by decide,
    one_meets _ _ _ rfl (by decide), by decide⟩

theorem witness_CancelStopsOrFinishes :
    parseWord (be16 1) = .ok 1 ∧ base.takes (req 0x2B (be16 1)) ∧ base.tablesHold ∧ base.booking? 1 = none ∧
    (∀ x ∈ [bk, { acc with state := .armed }, rec1, { bk with state := .stopping }, { bk with state := .finished }],
      Meets (one x []) (req 0x2B (be16 1)) x) ∧
    Meets (one { bk with state := .due } [order .start false 1]) (req 0x2B (be16 1)) { bk with state := .due } ∧
    (one { bk with state := .due } [order .start false 1]).holdsDelivered 1 .start = false ∧
    Meets (one { bk with state := .due } [order .start true 1]) (req 0x2B (be16 1)) { bk with state := .due } ∧
    (one { bk with state := .due } [order .start true 1]).holdsDelivered 1 .start = true := by
  refine ⟨rfl, base_takes _, base_tables, rfl, ?_, one_meets _ _ _ rfl (by decide), by decide, one_meets _ _ _ rfl (by decide), by decide⟩
  intro x hx
  refine one_meets x [] _ ?_ (by decide)
  simp at hx
  rcases hx with rfl | rfl | rfl | rfl | rfl <;> rfl

/-- A Finished booking whose record is 48 hours old. -/
def old : Booking := { bk with state := .finished, finishedAt := some 0 }

theorem witness_FinishedRecordsAreRemoved :
    parseWord (be16 0) = .ok 0 ∧ parseWord (be16 1) = .ok 1 ∧ Meets (one old []) (req 0x2C (be16 1)) old ∧
    Meets (one bk []) (req 0x2C (be16 1)) bk ∧ base.takes (req 0x2C (be16 1)) ∧ base.booking? 1 = none ∧ (one old []).links = [] ∧
    (let s := (one old []).setTime { base.time with seconds := 172800 }
     s.lines.resetn = true ∧ s.planner.triggered = false ∧ s.time.clockSet = true ∧
       0 + s.link.settings.purgeAge * 3600 ≤ s.time.seconds ∧ s.booking? 1 = some old ∧ s.links = []) :=
  ⟨rfl, rfl, one_meets _ _ _ rfl (by decide), one_meets _ _ _ rfl (by decide), base_takes _, rfl, rfl, rfl, rfl, rfl, by decide, rfl, rfl⟩

/-- Removed by Purge with a Starved link: the retry makes a booking, and a pass comes (R76). -/
theorem witness_FinishedRecordsAreRemoved_starved :
    (let s : State := { one old [] with
       guide := [⟨1, 6, 101000, 60, some 7, some 8, true⟩], links := [⟨3, 8, 0, 0, true, true, .series 7 none .all []⟩] }
     let t := after (.purge 9 (be16 1)) s
     s.takes (req 0x2C (be16 1)) ∧ s.booking? 1 = some old ∧ (t.book.records.map (·.main)) = [some ⟨1, 6⟩] ∧
       (t.links.map (·.starved)) = [false] ∧ t.planner.running.isSome = true) :=
  ⟨⟨rfl, rfl, Or.inl rfl⟩, rfl, by decide +kernel, by decide +kernel, by decide +kernel⟩

set_option maxRecDepth 20000 in
theorem witness_LinksAreMade :
    parseLinkSeries (be32 7 ++ be16 65535 ++ [0] ++ [0, 0, 0, 0, 0, 0, 0]) = .ok (⟨7, none, .newOnly⟩, ⟨none, none, none, none⟩) ∧
    parseLinkSeries (be32 0 ++ be16 0 ++ [0] ++ [0, 0, 0, 0, 0, 0, 0]) = .ok (⟨0, some 0, .newOnly⟩, ⟨none, none, none, none⟩) ∧
    (∀ f, base.takes f) ∧ base.links = [] ∧ firstFree (base.links.map (·.index)) 0 48 = some 0 ∧
    firstFree (List.range 48) 0 48 = none ∧
    (findService base.catalogue.services 2) = none ∧
    Link.sameSeries ⟨0, 8, 0, 0, false, false, .series 7 none .all []⟩ 7 none = true ∧
    parseLinkSlot (be16 0 ++ [1] ++ be16 1439 ++ be32 86400 ++ [0, 0, 0, 0, 0, 0, 0]) =
      .ok (⟨0, 1#7, 1439, 86400⟩, ⟨none, none, none, none⟩) ∧
    Link.sameSlot ⟨0, 8, 0, 0, false, false, .slot 0 1#7 1439 86400 []⟩ ⟨0, 1#7, 1439, 86400⟩ = true ∧
    (clocked fun t => { t with clockSet := false }).takes (req 0x31 (be16 0 ++ [1] ++ be16 1439 ++ be32 60 ++ [0, 0, 0, 0, 0, 0, 0])) :=
  ⟨rfl, rfl, base_takes, rfl, rfl, by decide +kernel, by decide, by decide, rfl, by decide, clocked_takes _ _⟩

set_option maxRecDepth 20000 in
theorem witness_LinksAreMade_adjusts :
    parseLinkSeries (be32 7 ++ be16 65535 ++ [0] ++ [7, 15, 14, 16, 28, 32, 0]) =
      .ok (⟨7, none, .newOnly⟩, ⟨some 15, some 3600, some 7200, none⟩) ∧
    parseLinkSeries (be32 7 ++ be16 65535 ++ [0] ++ [7, 16, 14, 17, 28, 33, 0]) =
      .ok (⟨7, none, .newOnly⟩, ⟨some 16, some 3601, some 7201, none⟩) ∧
    parseLinkSlot (be16 0 ++ [1] ++ be16 1439 ++ be32 86400 ++ [1, 15, 0, 0, 0, 0, 0]) =
      .ok (⟨0, 1#7, 1439, 86400⟩, ⟨some 15, none, none, none⟩) ∧
    parseLinkSlot (be16 0 ++ [1] ++ be16 1439 ++ be32 86400 ++ [8, 0, 0, 0, 0, 0, 1]) =
      .ok (⟨0, 1#7, 1439, 86400⟩, ⟨none, none, none, some true⟩) := ⟨rfl, rfl, rfl, rfl⟩

/-- The base state with a link and one booking. -/
def withLink (l : Link) (b : Booking) : State := { one b [] with links := [l] }

/-- A series link of tag 7, and the event of the guide offered to it; an airing of the same key before and at the chief's start. -/
def series (policy : Policy) (starved : Bool) (history : List Nat) : Link :=
  ⟨3, 8, 0, 0, true, starved, .series 7 none policy history⟩

def airing (start : Nat) : Event := ⟨1, 6, start, 60, some 7, some 8, true⟩

theorem withLink_link (l : Link) (b : Booking) : (withLink l b).link? l.index = some l := by simp [withLink, State.link?]

theorem withLink_tables (l : Link) (b : Booking) (hb : b.handle = 1) : (withLink l b).tablesHold := one_tables b [] hb (by decide)

theorem witness_LinksAreMade_match :
    (∀ l ∈ [series .all false [], series .newOnly true [9], series .newOnly false [8]],
      (withLink l { bk with origin := .series 3 }).link? l.index = some l) ∧
    ((series .all false []).carries (airing 101000)) = true ∧ base.time.seconds < (airing 99941).start + (airing 99941).duration ∧
    (∀ st ∈ [Lifecycle.pending, .armed, .due, .recording, .stopping],
      (withLink (series .newOnly false []) { bk with origin := .series 3, state := st }).chief 3 8 =
        some { bk with origin := .series 3, state := st }) ∧
    (withLink (series .newOnly false []) bk).chief 3 8 = none ∧ bk.nominalStart ≤ (airing 99000).start ∧
    (airing 98999).start < bk.nominalStart := by
  refine ⟨fun l _ => withLink_link l _, by decide, by decide, ?_, by decide, by decide, by decide⟩
  decide +kernel

theorem witness_LinksAreMade_create :
    (withLink (series .all false []) bk).tablesHold ∧ (withLink (series .all false []) bk).book.records.length < 128 ∧
    (let s : State := { full 128 with links := [series .all false []] }
     s.tablesHold ∧ 128 ≤ s.book.records.length ∧ s.link? 3 = some (series .all false [])) ∧
    (let s : State := { full 128 with links := [series .all true []] }
     s.link? 3 = some (series .all true [])) ∧
    listing.alternatives.length < 4 ∧ (listing.alternatives.any fun a => a.service == 1 && a.id == 7) = false ∧
    4 ≤ (List.replicate 4 (⟨1, 7, 5, 6⟩ : Alternative)).length := by
  refine ⟨withLink_tables _ _ rfl, by decide, ⟨full_tables 128 (by decide), by simp [full], rfl⟩, rfl, by decide, by decide, by decide⟩

/-- A slot link of every weekday at minute 300, with an entry of today. -/
def slots : Link := ⟨3, 8, 0, 0, false, true, .slot 0 0x7F#7 300 3600 [⟨1, 1⟩]⟩

theorem witness_LinksAreMade_instantiate :
    (withLink slots slotted).tablesHold ∧ (withLink slots slotted).link? slots.index = some slots ∧
    (withLink slots slotted).time.clockSet = true ∧ ((base.time.seconds : Int) + 60 * base.time.zone) / 86400 = 1 ∧
    (0x7F#7).getLsbD (((2 : Int) + 5) % 7).toNat = true ∧ toUtc base.time.zone base.time.nextChange 2 300 = some 190800 ∧
    base.time.seconds < 190800 ∧ 190800 + 3600 ≤ maxU32 ∧
    ((withLink slots slotted).instantiate 3 false).created = 7 :=
  ⟨withLink_tables _ _ rfl, withLink_link _ _, rfl, by decide, by decide, by decide, by decide, by decide, by decide +kernel⟩

/-- A series link at index 47 with a booking of its own. -/
def linked : State :=
  { one { bk with origin := .series 47 } [] with links := [⟨47, 8, 0, 0, false, false, .series 7 none .all [8]⟩] }

theorem witness_UnlinkFreesTheIndex :
    parseUnlink [47, 0] = .ok (47, false) ∧ parseUnlink [47, 1] = .ok (47, true) ∧ parseUnlink [48, 0] = .ok (48, false) ∧
    linked.takes (req 0x32 [47, 0]) ∧ linked.tablesHold ∧ (linked.link? 47).isSome = true ∧ linked.link? 46 = none ∧
    linked.booking? 1 = some { bk with origin := .series 47 } :=
  ⟨rfl, rfl, rfl, ⟨rfl, rfl, Or.inl rfl⟩, one_tables _ [] rfl (by decide), rfl, rfl, rfl⟩

/-- A pass that read the booking. -/
def onePass (changed : List Nat) : Pass :=
  { t0 := 99999, bookings := [bk], muxes := base.catalogue.muxes, services := base.catalogue.services, live := none, latchA := false,
    latchB := false, feedMode := .independent, liveRank := 8, changed := changed, liveChanged := false }

/-- It is Running, with a held reply. -/
def passing (changed : List Nat) (passes : Nat) (plan : ReplyPlan) : State :=
  { one bk [] with
    orders := ⟨[], some passes⟩
    planner := { Planner.reset with running := some (onePass changed) }
    link := { LinkInterface.reset with phase := .holding passes plan, requests := [req 0x29 []] } }

/-- The handles and placements that the running pass of a state computed. -/
def results (s : State) : List (Nat × Placement) :=
  match s.planner.running with
  | some p => p.run.bookings.map fun r => (r.handle, r.placement)
  | none => []

theorem witness_PassEnds :
    results (passing [] 1 (.booked .ok 1 none)) = [(1, .placed .a 99999 103100)] ∧
    (passing [] 1 (.booked .ok 1 none)).lines.resetn = true ∧ (passing [] 1 (.booked .ok 1 none)).tablesHold ∧
    (passing [] 1 (.booked .ok 1 none)).booking? 1 = some bk ∧ (passing [1] 2 .live).orders.stepHold = some 2 ∧
    (passing [1] 2 .live).link.phase = .holding 2 .live ∧ (passing [] 1 (.done .ok .code)).orders.stepHold = some 1 ∧
    (passing [] 1 (.done .ok .code)).link.phase = .holding 1 (.done .ok .code) ∧
    (passing [] 1 (.done .ok .code)).link.requests = [req 0x29 []] ∧
    (let s : State := { base with monitor := { base.monitor with live := some ⟨0, .a, some ⟨.a, 0, 99000, none, some 100000⟩⟩ } }
     s.time.clockSet = true ∧ 100000 ≤ s.time.seconds ∧ s.monitor.yieldTaken ≠ some 100000 ∧ s.planner.running = none) :=
  ⟨by decide +kernel, rfl, one_tables bk [] rfl (by decide), rfl, rfl, rfl, rfl, rfl, rfl, rfl, by decide, by decide, rfl⟩

/-- A running pass with a live claim whose placement it chose, which the claim's change may have set aside. -/
def livePassing (changed : Bool) : State :=
  { passing [1] 1 .live with
    monitor := { base.monitor with live := some ⟨1, .b, none⟩ }
    planner := { Planner.reset with
      running := some { onePass [1] with live := some (1, .b), liveChanged := changed }, repass := true } }

theorem witness_PassEnds_live :
    (livePassing false).lines.resetn = true ∧ (livePassing false).tablesHold ∧ (livePassing false).planner.repass = true ∧
    (({ onePass [1] with live := some (1, .b) } : Pass).run.live) = some ⟨.b, 1, 99999, none, none⟩ ∧
    (livePassing false).monitor.live = some ⟨1, .b, none⟩ ∧ bk.handle ∈ (onePass [1]).changed ∧ bk.handle ∉ (onePass []).changed ∧
    ((livePassing false).planner.running.map (·.liveChanged)) = some false ∧
    ((livePassing true).planner.running.map (·.liveChanged)) = some true ∧
    ((after .passEnd (passing [] 1 .live)).planner.plan.map fun o => (o.handle, o.start)) = [(1, 99999)] :=
  ⟨rfl, one_tables bk [] rfl (by decide), rfl, by decide +kernel, rfl, by decide, by decide, rfl, rfl, by decide +kernel⟩

/-- The placements before and after a pass, as R105 compares them. -/
def comparedWith (written : Option Placement) (now : Placement) : Booking := { bk with written := written, placement := now }

theorem witness_PassEnds_notices :
    (∀ x ∈ [comparedWith none (.unplaced .none), comparedWith (some (.placed .a 1 2)) (.unplaced .none),
        comparedWith (some (.unplaced .none)) (.placed .a 1 2), comparedWith (some (.placed .a 1 2)) (.placed .a 1 3),
        comparedWith (some (.placed .a 1 2)) (.placed .a 1 2), comparedWith none (.placed .a 1 2)],
      (one x []).booking? x.handle = some x) ∧
    (∀ r ∈ [(⟨1, 103100, 104000, 104000, true⟩ : ClaimResult), ⟨1, 103100, 104000, 100001, false⟩, ⟨1, 103100, 104000, 100000, false⟩],
      (one rec1 []).tablesHold ∧ (one rec1 []).booking? r.handle = some rec1) ∧
    base.time.seconds < 100001 ∧ 100000 ≤ base.time.seconds ∧ base.monitor.live = none ∧
    (∀ q ∈ [none, some (⟨.a, 0, 1, none, none⟩ : LivePlacement), some ⟨.b, 0, 1, none, none⟩],
      ({ base with monitor := { base.monitor with live := some ⟨0, .a, q⟩ } } : State).monitor.live = some ⟨0, .a, q⟩) := by
  refine ⟨?_, ?_, by decide, by decide, rfl, fun _ _ => rfl⟩
  · intro x hx
    refine one_holds x [] ?_
    simp [comparedWith] at hx
    rcases hx with rfl | rfl | rfl | rfl | rfl | rfl <;> rfl
  · intro r hr
    refine ⟨one_tables rec1 [] rfl (by decide), ?_⟩
    simp at hr
    rcases hr with rfl | rfl | rfl <;> rfl

/-- A recording moved while the pass was Running: its end compares it, though it changed, and tells the move (R105; log 57). -/
theorem witness_PassEnds_compares :
    (let moved : Booking := { rec1 with placement := .placed .b 98900 103100, written := some (.placed .a 98900 103100) }
     let p : Pass := { onePass [1] with bookings := [rec1] }
     let s : State := (one moved []).setPlanner { Planner.reset with running := some p }
     s.tablesHold ∧ s.judged p [] = [(1, false)] ∧
       ((after .passEnd s).notices.queue.filterMap fun n => n.body.stateOf) = [1]) :=
  ⟨one_tables _ [] rfl (by decide), by decide +kernel, by decide +kernel⟩

theorem witness_PassEnds_yields :
    (∀ r ∈ [none, some (onePass [])],
      (let s : State := { base with
         monitor := { base.monitor with live := some ⟨0, .a, some ⟨.a, 0, 99000, none, some 100000⟩⟩ }
         planner := { Planner.reset with running := r } }
       s.lines.resetn = true ∧ s.time.clockSet = true ∧ s.monitor.live = some ⟨0, .a, some ⟨.a, 0, 99000, none, some 100000⟩⟩ ∧
         100000 ≤ s.time.seconds ∧ s.monitor.yieldTaken ≠ some 100000 ∧ s.planner.running = r)) :=
  fun _ _ => ⟨rfl, rfl, rfl, Nat.le_refl 100000, (nomatch ·), rfl⟩

theorem witness_PassEnds_arrives :
    (let s := fun (t : Tuner) => { one rec1 [] with monitor := { base.monitor with a := t } }
     (∀ b ∈ [(⟨.locked, false, false, some 1, none, none, none⟩ : Tuner), ⟨.faulted, true, false, some 1, none, none, none⟩],
       (s b).inUse .a = true ∧ ((s b).tuner .a).condition ≠ .unused ∧ ((s b).tuner .a).tuned ≠ some 0) ∧
     ((s ⟨.locked, false, false, some 0, none, none, none⟩).tuner .a).tuned = some 0 ∧
     ((s .reset).tuner .a).condition = .unused ∧ (s .reset).inUse .b = false) ∧
    (∀ stop ∈ [none, some 100000],
      (let l : LivePlacement := ⟨.a, 0, 100000, stop, stop⟩
       let s : State := { base with monitor := { base.monitor with
         a := ⟨.locked, false, false, some 1, none, none, none⟩, live := some ⟨0, .a, some ⟨.a, 1, 99000, none, none⟩⟩ } }
       s.pinnedOn .a = [] ∧ (s.tuner .a).condition ≠ .unused ∧ s.monitor.live = some ⟨0, .a, some ⟨.a, 1, 99000, none, none⟩⟩ ∧
         (∀ e, l.stop = some e → e ≤ l.start))) ∧
    (passing [] 1 (.standby .up 1)).link.phase = .holding 1 (.standby .up 1) ∧
    (passing [] 1 (.standby .up 1)).link.requests = [req 0x29 []] := by
  refine ⟨by decide +kernel, ?_, rfl, rfl⟩
  intro stop hs
  refine ⟨rfl, by decide, rfl, ?_⟩
  intro e he
  simp at hs
  rcases hs with rfl | rfl
  · exact nomatch he
  · cases he
    exact Nat.le_refl 100000

/-- A running pass that read the records as they stand. -/
def passOver (s : State) (edit : Pass → Pass) : State :=
  { s with planner := { Planner.reset with running := some (edit { onePass [] with bookings := s.book.records }) } }

/-- A pass that read both fault latches set: nothing places. -/
def latchedPass (p : Pass) : Pass := { p with latchA := true, latchB := true }

/-- The computation of the running pass of a state. -/
def computed (s : State) : PassResult :=
  match s.planner.running with
  | some p => p.run
  | none => ⟨[], [], [], none⟩

/-- An Armed booking with a candidate; of a series, with an alternative on the other multiplex that starts as given. -/
def armed : Booking := { acc with state := .armed, items := { OrderItems.empty with candidate := some ⟨.startsSoon, .zero, false⟩ } }

def airingAt (start : Nat) : Booking := { armed with origin := .series 1, alternatives := [⟨1, 6, start, 102000⟩] }

/-- It stands between two recordings on that multiplex, one on each tuner. -/
def crowded (b : Booking) : State :=
  { base with book := ⟨[b, { rec1 with handle := 2, service := 1 }, { rec1 with handle := 3, service := 1, placement := .placed .b 98900 103100 }], 4⟩ }

theorem crowded_tables (b : Booking) (h : b.handle = 1) : (crowded b).tablesHold := by
  refine ⟨⟨by simp [crowded, h], by simp [crowded], ?_, by simp [crowded], by simp [crowded]⟩, base_tables.2.1, base_tables.2.2⟩
  intro c hc
  simp only [crowded, List.mem_cons, List.not_mem_nil, or_false] at hc
  rcases hc with rfl | rfl | rfl <;> simp [h]

theorem witness_PassEnds_armed :
    ((computed (passOver (one armed []) latchedPass)).bookings.map fun r => (r.ranked, r.placement.isUnplaced, r.choice.isSome)) =
      [(true, true, false)] ∧
    ((computed (passOver (one armed []) id)).bookings.map fun r => (r.ranked, r.placement.isUnplaced, r.choice.isSome)) =
      [(true, false, false)] ∧
    ((computed (passOver (one { armed with nominalStop := 99899 } []) id)).bookings.map fun r => (r.ranked, r.placement.isUnplaced)) =
      [(false, true)] ∧
    (∀ start ∈ [101000, 99000],
      ((computed (passOver (crowded (airingAt start)) id)).bookings.map fun r => (r.handle, r.ranked, r.choice.isSome)) = [(1, true, true)] ∧
      ((after .passEnd (passOver (crowded (airingAt start)) id)).booking? 1).map
        (fun x => (x.state, x.main, x.alternatives, x.items.candidate.isNone)) =
        some (if start = 101000 then .pending else .due, some ⟨1, 6⟩, [⟨0, 5, 99000, 103000⟩], true)) := by
  refine ⟨by decide +kernel, by decide +kernel, by decide +kernel, ?_⟩
  intro start hs
  simp at hs
  rcases hs with rfl | rfl <;> decide +kernel

theorem witness_PassEnds_armed_holds :
    (∀ f : Pass → Pass, (passOver (one armed []) f).lines.resetn = true ∧ (passOver (one armed []) f).tablesHold ∧
      (passOver (one armed []) f).booking? 1 = some armed ∧ (passOver (one armed []) f).planner.repass = false) ∧
    (∀ start, (passOver (crowded (airingAt start)) id).tablesHold ∧
      (passOver (crowded (airingAt start)) id).booking? 1 = some (airingAt start)) ∧
    (onePass []).changed = [] :=
  ⟨fun _ => ⟨rfl, one_tables armed [] rfl (by decide), rfl, rfl⟩, fun start => ⟨crowded_tables (airingAt start) rfl, rfl⟩, rfl⟩

/-- A recording with an open claim from its effective end on. -/
def claiming (e f : Nat) : Booking := { rec1 with placement := .placed .a 98900 e, items := { ran with overrun := .opened e f } }

theorem witness_PassEnds_claims :
    (∀ e f, (passOver (one (claiming e f) []) id).tablesHold ∧ (passOver (one (claiming e f) []) id).booking? 1 = some (claiming e f)) ∧
    (computed (passOver (one (claiming 103100 104000) []) id)).claims = [⟨1, 103100, 104000, 104000, true⟩] ∧
    (computed (passOver (one (claiming 100001 104000) []) latchedPass)).claims = [⟨1, 100001, 104000, 100001, false⟩] ∧
    (computed (passOver (one (claiming 100000 104000) []) latchedPass)).claims = [⟨1, 100000, 104000, 100000, false⟩] ∧
    ((after .passEnd (passOver (one (claiming 100000 104000) []) latchedPass)).booking? 1).map (fun x => (x.state, x.placement)) =
      some (.stopping, .placed .a 98900 100000) ∧ (after .passEnd (passOver (one (claiming 103100 104000) []) id)).planner.running = none := by
  refine ⟨fun _ _ => ⟨one_tables _ [] rfl (by decide), rfl⟩, ?_⟩
  decide +kernel

theorem witness_PassEnds_empty_span :
    (let s : State := { passOver base (fun p => { latchedPass p with live := some (1, .b) }) with
       monitor := { base.monitor with live := some ⟨1, .b, none⟩ } }
     (computed s).live = some ⟨.b, 1, 99999, some 99999, some 99999⟩ ∧
       (after .passEnd s).planner.plan = [⟨.b, 1, 99999, some 99999, .live, 0⟩]) ∧
    (∀ r ∈ [(⟨1, .unplaced .none, false, none, none, true⟩ : BookingResult), ⟨1, .placed .a 1 2, false, some false, none, true⟩],
      (one bk []).tablesHold ∧ (one bk []).booking? r.handle = some bk) := by
  refine ⟨by decide +kernel, ?_⟩
  intro r hr
  refine ⟨one_tables bk [] rfl (by decide), ?_⟩
  simp at hr
  rcases hr with rfl | rfl <;> rfl

/-- A booking that came, after T₀, to a service T₀ did not have stands in the plan on that service's multiplex (log 62). -/
theorem test_plan_lists_the_service_made_since :
    (let s := passing [1] 1 .live
     let t : State := { s with
       catalogue := { s.catalogue with services := s.catalogue.services ++ [⟨2, 102, 1, 0⟩] }
       book := ⟨[{ bk with service := 2, main := some ⟨2, 9⟩, replan := true }], 2⟩ }
     (after .passEnd t).planner.plan = [⟨.a, 1, 98900, some 103100, .booking, 1⟩]) := by decide +kernel

theorem test_an_empty_span_only_releases_the_tuner :
    (let s : State := { base with monitor := { base.monitor with
       a := ⟨.locked, false, false, some 1, none, none, none⟩, live := some ⟨0, .a, some ⟨.a, 1, 99000, none, none⟩⟩ } }
     let t := s.handLive ⟨.a, 0, 100000, some 100000, some 100000⟩
     t.monitor.a.condition == .unused && t.notices.queue.all fun n => match n.body with
       | .tunerChange _ _ _ _ .retune => false
       | _ => true) = true := by decide +kernel

/-- An empty ground, and one with a fault latch. -/
def ground (faultA faultB : Bool) : Ground :=
  { laid := [], muxes := base.catalogue.muxes, feedMode := .independent, faultA := faultA, faultB := faultB }

theorem witness_TunersAreChosen :
    ((ground false false).kindsAt .a true 0 5).any = false ∧ ((ground true false).kindsAt .a true 0 5).any = true ∧
    ((ground true false).kindsAt .b true 0 5).any = false ∧ ((ground true true).kindsAt .b true 0 5).any = true ∧
    ((ground true false).phase1 5 ⟨5, 5, 6, 6, 0⟩).map (fun p => (p.tuner, p.start, p.stop)) = some (.b, 5, 6) := by decide +kernel

/-- A ground with an occupancy of another multiplex on each tuner: A from 10 to 20, B from 15 to 20. -/
def laidGround : Ground :=
  { ground false false with laid := [⟨.a, 1, 10, some 20, .booking, 2⟩, ⟨.b, 1, 15, some 20, .booking, 3⟩] }

/-- A trial whose padding alone is in conflict, and one whose nominal part is. -/
def trimmable : Trial := ⟨2, 5, 9, 22, 0⟩

def blocked : Trial := ⟨2, 5, 16, 22, 0⟩

theorem witness_TunersAreChosen_trims :
    ((List.range 20).all fun t => (laidGround.kindsAt .a true 0 t).any == decide (10 ≤ t ∧ t < 20)) = true ∧
    ((List.range 20).all fun t => (laidGround.kindsAt .b true 0 t).any == decide (15 ≤ t ∧ t < 20)) = true ∧
    laidGround.phase1 4 trimmable = none ∧ laidGround.trimmed 4 trimmable .a = some (4, 10) ∧
    laidGround.trimmed 4 trimmable .b = some (4, 15) ∧ laidGround.trimmed 4 blocked .a = none ∧
    laidGround.trimmed 4 blocked .b = none ∧ (laidGround.phase1 4 ⟨2, 5, 9, 10, 0⟩).isSome = true ∧
    max trimmable.nomStart 4 < trimmable.nomStop ∧ trimmable.padStart ≤ trimmable.nomStart ∧
    trimmable.nomStop ≤ trimmable.padStop ∧ laidGround.trimmed 12 ⟨2, 5, 12, 22, 0⟩ .b = some (12, 15) ∧
    laidGround.trimmed 12 ⟨2, 5, 12, 22, 0⟩ .a = none ∧ laidGround.trimmed 12 ⟨2, 5, 9, 12, 0⟩ .b = none := by decide +kernel

/-- A pass at 4 over the ground, with and without a live claim. -/
def rankPass (live : Option (Nat × TunerId)) : Pass :=
  { onePass [] with t0 := 4, live := live, bookings := [{ bk with nominalStart := 5, nominalStop := 9, prePad := 3, postPad := 1 },
      { rec1 with handle := 2, items := { OrderItems.empty with overrun := .opened 9 12 }, placement := .placed .b 1 9 }] }

/-- The ground's occupancies as a pass has laid them so far. -/
def laidResult : PassResult := ⟨laidGround.laid, [], [], none⟩

theorem witness_TunersAreChosen_pass :
    (rankPass none).items.length = 2 ∧ (rankPass (some (1, .a))).items.length = 3 ∧
    (∀ t, ((ground false false).kindsAt .a true 0 t).any = false) ∧
    (let b := { bk with nominalStart := 5, nominalStop := 16, alternatives := [⟨1, 5, 1, 4⟩, ⟨1, 6, 5, 9⟩] }
     laidGround.placeTrial 4 ⟨5, 5, 16, 16, 0⟩ = none ∧ laidGround.placeTrial 4 ⟨5, 5, 9, 9, 1⟩ ≠ none ∧ b.main ≠ none ∧
       b.alternatives.map (·.stop) = [4, 9]) ∧
    ((rankPass none).placeClaim laidResult bk .a 4 9).claims = [⟨1, 4, 9, 9, true⟩] ∧
    ((rankPass none).placeClaim laidResult bk .a 4 11).claims = [⟨1, 4, 11, 10, false⟩] ∧
    ((rankPass none).placeLiveClaim laidResult 0 .a).live = some ⟨.b, 0, 4, some 15, some 15⟩ ∧
    ((rankPass none).placeLiveClaim ⟨[], [], [], none⟩ 0 .a).live = some ⟨.a, 0, 4, none, none⟩ ∧
    ((rankPass none).placeLiveClaim ⟨[⟨.a, 1, 10, some 20, .booking, 2⟩], [], [], none⟩ 0 .a).live = some ⟨.b, 0, 4, none, none⟩ := by
  refine ⟨by decide +kernel, by decide +kernel, ?_, by decide +kernel, by decide +kernel, by decide +kernel, by decide +kernel,
    by decide +kernel, by decide +kernel⟩
  intro t
  rfl

/-- Bookings at the edges of what a pass at 4 lays or ranks: effective end at and after 4, padded end at and after 4. -/
def edgePass : Pass :=
  { onePass [] with t0 := 4, bookings :=
      [{ rec1 with placement := .placed .a 1 4 }, { rec1 with handle := 2, state := .due, placement := .placed .a 1 5 },
       { rec1 with handle := 3, state := .stopping, placement := .placed .b 6 9 },
       { bk with handle := 4, nominalStart := 1, nominalStop := 3, postPad := 1 },
       { armed with handle := 5, nominalStart := 1, nominalStop := 3, postPad := 2 }] }

theorem test_pass_begins_with_the_pinned :
    (edgePass.run.laid.take 2).map (fun o => (o.handle, o.tuner, o.start, o.stop)) = [(2, .a, 4, some 5), (3, .b, 4, some 9)] ∧
    edgePass.run.bookings.map (fun r => (r.handle, r.ranked)) = [(4, false), (5, true)] ∧ edgePass.items.length = 1 := by decide +kernel

theorem witness_EffectiveStartOpens_waits :
    (one { bk with replan := true } []).tablesHold ∧ (one { bk with replan := true } []).booking? 1 = some { bk with replan := true } ∧
    bk.replan = false :=
  ⟨one_tables _ [] rfl (by decide), rfl, rfl⟩

theorem witness_EffectiveStartOpens :
    (∀ x ∈ [bk, acc, { acc with items := { OrderItems.empty with report := some ⟨.running, 99400⟩ } },
        { acc with items := { OrderItems.empty with report := some ⟨.running, 99399⟩ } }],
      Meets (one x []) (req 1 []) x ∧ x.state = .pending ∧ x.placement = .placed .a 98900 103100 ∧ (one x []).orders.stepHold = none) ∧
    base.time.clockSet = true ∧ 98900 ≤ base.time.seconds ∧ base.time.seconds ≤ 99400 + 600 ∧ 99399 + 600 < base.time.seconds ∧
    acc.items.runningAt = none ∧ acc.main = some ⟨0, 5⟩ := by
  refine ⟨?_, by decide⟩
  intro x hx
  have hb : x.handle = 1 ∧ x.state = .pending ∧ x.placement = .placed .a 98900 103100 := by
    simp at hx
    rcases hx with rfl | rfl | rfl | rfl <;> exact ⟨rfl, rfl, rfl⟩
  exact ⟨one_meets x [] _ hb.1 (by decide), hb.2.1, hb.2.2, rfl⟩

/-- An unplaced booking past its padded end, and a Due one with its Start undelivered. -/
def missed : Booking := { bk with placement := .unplaced .none, nominalStop := 99900 }

def late : Booking := { bk with state := .due, nominalStop := 99900 }

theorem witness_MissedBookingsFinish :
    Meets (one missed []) (req 1 []) missed ∧ min (missed.nominalStop + missed.postPad) maxU32 = base.time.seconds ∧
    Meets (one late [order .start false 1]) (req 1 []) late ∧ (order .start false 1).issued < min (late.nominalStop + late.postPad) maxU32 ∧
    Meets (one { late with nominalStop := 98900 } [order .start false 1]) (req 1 []) { late with nominalStop := 98900 } ∧
    min (98900 + late.postPad) maxU32 ≤ (order .start false 1).issued ∧
    base.link.settings.orderTimeout ≤ (order .start false 1).elapsed ∧ base.time.clockSet = true :=
  ⟨one_meets _ _ _ rfl (by decide), by decide, one_meets _ _ _ rfl (by decide), by decide, one_meets _ _ _ rfl (by decide), by decide,
    by decide, by decide⟩

/-- Recording bookings at their effective end: timed, and following running status before, at and after a truncated claim. -/
def ending : Booking := { rec1 with placement := .placed .a 98900 100000 }

def following : Booking := { ending with accurate := true, items := { OrderItems.empty with runningAt := some 99000 } }

theorem witness_EffectiveEndsAct :
    (∀ x ∈ [ending, following, { following with items := { following.items with overrun := .truncated } },
        { following with nominalStop := 98200 }, { ending with state := .pending }],
      Meets (one x []) (req 1 []) x ∧ x.placement = .placed .a 98900 100000 ∧ x.items.endTaken = none ∧ x.state ≠ .finished) ∧
    base.time.clockSet = true ∧ 100000 ≤ base.time.seconds ∧ following.nominalStop + 1800 > base.time.seconds ∧
    98200 + base.link.settings.accurateSlack ≤ base.time.seconds ∧ following.items.overrun = .none ∧
    Meets (one { acc with state := .armed, nominalStop := 98200 } []) (req 1 []) { acc with state := .armed, nominalStop := 98200 } := by
  refine ⟨?_, by decide, by decide, by decide, by decide, rfl, one_meets _ _ _ rfl (by decide)⟩
  intro x hx
  have hb : x.handle = 1 ∧ x.placement = .placed .a 98900 100000 ∧ x.items.endTaken = none ∧ x.state ≠ .finished := by
    simp at hx
    rcases hx with rfl | rfl | rfl | rfl | rfl <;> exact ⟨rfl, rfl, rfl, by decide⟩
  exact ⟨one_meets x [] _ hb.1 (by decide), hb.2⟩

theorem witness_OrdersTimeOut :
    (∀ p ∈ [({ bk with state := .due }, order .start true 1), ({ bk with state := .due }, order .start true 2),
        ({ bk with state := .stopping }, order .stop true 1), (rec1, order .move true 1)],
      Meets (one p.1 [p.2]) (req 1 []) p.1 ∧ (one p.1 [p.2]).orderOf 1 = some p.2 ∧ p.2.delivered = true ∧ p.2.limit ≤ p.2.elapsed) := by
  intro p hp
  have hb : p.1.handle = 1 ∧ p.2.handle = 1 ∧ p.2.delivered = true ∧ p.2.limit ≤ p.2.elapsed := by
    simp at hp
    rcases hp with rfl | rfl | rfl | rfl <;> exact ⟨rfl, rfl, rfl, by decide⟩
  exact ⟨one_meets p.1 [p.2] _ hb.1 (by simp), by simp [one, State.orderOf, hb.2.1], hb.2.2⟩

/-- Bookings whose candidate has held for RunHold. -/
def held (state : Lifecycle) (status : RunStatus) (items : OrderItems) : Booking :=
  { acc with state := state, items := { items with candidate := some ⟨status, ⟨4, true⟩, false⟩ } }

theorem witness_RunningStatusActs :
    parseRunStatus (be16 0 ++ be16 5 ++ [3]) = .ok (⟨0, 5⟩, .paused) ∧ base.takes (req 0x48 (be16 0 ++ be16 5 ++ [3])) ∧
    (findService base.catalogue.services 0).isSome = true ∧ findService base.catalogue.services 2 = none ∧
    Meets (one (held .armed .running .empty) []) (req 1 []) (held .armed .running .empty) ∧
    Meets (one (held .recording .notRunning following.items) []) (req 1 []) (held .recording .notRunning following.items) ∧
    Meets (one (held .due .paused .empty) []) (req 1 []) (held .due .paused .empty) ∧
    base.link.settings.runHold ≤ 4 ∧ base.time.seconds < 103100 :=
  ⟨rfl, base_takes _, by decide, by decide, one_meets _ _ _ rfl (by decide), one_meets _ _ _ rfl (by decide),
    one_meets _ _ _ rfl (by decide), by decide, by decide⟩

theorem witness_NewSettingsAct_acts :
    (∀ x ∈ [held .recording .notRunning ran, held .armed .running .empty, held .due .running .empty, held .armed .startsSoon .empty],
      Meets (one x []) (req 3 (10 :: be32 3)) x ∧ x.placement = .placed .a 98900 103100 ∧
        ∃ c, x.items.candidate = some c ∧ c.taken = false ∧ bringIn 3 .runHold ≤ c.held.seconds) ∧
    base.time.seconds < 103100 ∧
    (∀ x ∈ [{ acc with state := .armed, nominalStop := 100000 }, { rec1 with accurate := true, nominalStop := 100000, items := ran }],
      Meets (one x []) (req 3 (11 :: be32 0)) x ∧ x.nominalStop + bringIn 0 .accurateSlack ≤ base.time.seconds) := by
  refine ⟨fun x hx => ?_, by decide, fun x hx => ?_⟩
  · have hb : x.handle = 1 ∧ x.placement = .placed .a 98900 103100 ∧ ∃ c, x.items.candidate = some c ∧ c.taken = false ∧ 4 ≤ c.held.seconds := by
      simp at hx
      rcases hx with rfl | rfl | rfl | rfl <;> exact ⟨rfl, rfl, _, rfl, rfl, Nat.le_refl 4⟩
    obtain ⟨h1, h2, c, h3, h4, h5⟩ := hb
    exact ⟨one_meets x [] _ h1 (by decide), h2, c, h3, h4, Nat.le_trans (by decide) h5⟩
  · have hb : x.handle = 1 ∧ x.nominalStop + bringIn 0 .accurateSlack ≤ base.time.seconds := by
      simp at hx
      rcases hx with rfl | rfl <;> exact ⟨rfl, by decide⟩
    exact ⟨one_meets x [] _ hb.1 (by decide), hb.2⟩

theorem witness_RunningStatusActs_marks :
    (∀ x ∈ [{ held .armed .running .empty with placement := .placed .a 98900 100000 },
        { held .armed .running .empty with placement := .unplaced .none }, held .armed .notRunning .empty,
        held .recording .running .empty, held .recording .notRunning .empty, held .recording .startsSoon .empty],
      Meets (one x []) (req 1 []) x ∧ x.items.candidate.map (·.held) = some ⟨4, true⟩ ∧ x.items.runningAt = none) := by
  intro x hx
  have hb : x.handle = 1 ∧ x.items.candidate.map (·.held) = some ⟨4, true⟩ ∧ x.items.runningAt = none := by
    simp at hx
    rcases hx with rfl | rfl | rfl | rfl | rfl | rfl <;> exact ⟨rfl, rfl, rfl⟩
  exact ⟨one_meets x [] _ hb.1 (by decide), hb.2⟩

/-- The Start that Running taking effect issues is marked as such; one of an opening is not (R117, R123). -/
theorem test_running_marks_its_start :
    (after (.holdCompletes 1) (one (held .armed .running .empty) [])).orders.orders.map (·.onRunning) = [true] ∧
    (after (.effectiveStartReached 1) (one bk [])).orders.orders.map (·.onRunning) = [false] := by decide +kernel

/-- A free index is read with a free value within the range of R20 (log 64). -/
theorem test_free_entries_stay_in_range :
    muxOf [] 5 = (Config.freeMux 5).val ∧ muxOf [] 5 < 128 ∧ quadrantOf [] 5 < 4 ∧ State.reset.catalogueRate 5 ≤ 40000 :=
  ⟨rfl, (Config.freeMux 5).isLt, (Config.freeQuadrant 5).isLt, Nat.lt_succ_iff.mp (Config.freeRate 5).isLt⟩

/-- A recording booking in a gap whose failover count stands at 0. -/
def gapped : Booking := { rec1 with items := { OrderItems.empty with inGap := true, failover := 0 } }

theorem witness_FailoverIsTested :
    Meets (one gapped []) (req 1 []) gapped ∧ gapped.state = .recording ∧ gapped.placement = .placed .a 98900 103100 ∧
    (one gapped []).orderOf 1 = none ∧ ((one gapped []).tuner .b).condition.gapping = false ∧
    ((one gapped []).failoverGround 1).free .b (muxOf base.catalogue.services 0) base.time.seconds 103100 = true ∧
    Meets (one gapped [order .move true 1]) (req 1 []) gapped ∧ (one gapped [order .move true 1]).orderOf 1 = some (order .move true 1) ∧
    Condition.gapping .lost = true :=
  ⟨one_meets _ _ _ rfl (by decide), rfl, rfl, rfl, rfl, by decide +kernel, one_meets _ _ _ rfl (by decide), rfl, rfl⟩

/-- Beside it a second recording that holds a Move to tuner B; the plan has both on tuner A (R135; log 36). -/
def secondMoves : State :=
  { base with
    book := ⟨[gapped, { gapped with handle := 2 }], 3⟩
    orders := ⟨[{ order .move false 1 with handle := 2, tuner := some .b }], none⟩
    planner := { Planner.reset with plan := [⟨.a, 0, 98900, some 103100, .booking, 1⟩, ⟨.a, 0, 98900, some 103100, .booking, 2⟩] } }

theorem witness_FailoverIsTested_ground :
    secondMoves.booking? 1 = some gapped ∧
    (secondMoves.orderOf 2).map (fun o => (o.kind, o.tuner)) = some (.move, some .b) ∧
    (secondMoves.failoverGround 1).laid = [⟨.b, 0, 98900, some 103100, .booking, 2⟩] ∧
    (secondMoves.failoverGround 2).laid = [⟨.a, 0, 98900, some 103100, .booking, 1⟩] := by decide +kernel

/-- A gapped recording of which another window on tuner B leaves the nominal part free, and not its last three seconds. -/
def trimming : Booking := { gapped with nominalStop := 100005, placement := .placed .a 98900 100010 }

def trimState (from_ : Nat) : State :=
  { one trimming [] with planner := { Planner.reset with plan := [⟨.b, 1, from_, some 100020, .booking, 2⟩] } }

theorem witness_FailoverIsTested_trims :
    (∀ k ∈ [100007, 100004], (trimState k).tablesHold ∧ (trimState k).booking? 1 = some trimming ∧ (trimState k).orderOf 1 = none ∧
      ((trimState k).tuner .b).condition.gapping = false) ∧
    ((List.range 10).all fun j => (((trimState 100007).failoverGround 1).kindsAt .b true 0 (100000 + j)).any == decide (7 ≤ j)) = true ∧
    (((trimState 100004).failoverGround 1).kindsAt .b true 0 100004).any = true ∧
    ((after (.failoverTest 1) (trimState 100007)).booking? 1).bind (·.items.moveTarget) = some ⟨.b, 100007⟩ := by
  refine ⟨?_, by decide +kernel, by decide +kernel, by decide +kernel⟩
  intro k hk
  exact ⟨one_tables trimming [] rfl (by decide), rfl, rfl, rfl⟩

theorem witness_BegunStartsRecording :
    parseReport (be16 1 ++ [0, 0]) = .ok 1 ∧ [1, 2, 3, 4].contains (reportCode (be16 1 ++ [0, 0])) = false ∧
    parseReport (be16 0 ++ [4, 0]) = .ok 0 ∧ base.takes (req 0x49 (be16 1 ++ [0, 0])) ∧ base.booking? 1 = none ∧
    (∀ x ∈ [{ bk with state := .due }, { bk with state := .stopping }, { rec1 with state := .stopping }, bk, rec1,
        { bk with state := .finished, verdict := some ⟨.failed, .noStart⟩ },
        { bk with state := .finished, verdict := some ⟨.cancelled, .request⟩ },
        { bk with state := .finished, verdict := some ⟨.completed, .scheduled⟩ }],
      Meets (one x []) (req 0x49 (be16 1 ++ [0, 0])) x) ∧ base.time.seconds < 103100 := by
  refine ⟨rfl, by decide, rfl, base_takes _, rfl, ?_, by decide⟩
  intro x hx
  refine one_meets x [] _ ?_ (by decide)
  simp at hx
  rcases hx with rfl | rfl | rfl | rfl | rfl | rfl | rfl | rfl <;> rfl

/-- Due bookings at their effective end, and with NotRunning held. -/
def dueAtEnd (items : OrderItems) : Booking :=
  { acc with state := .due, placement := .placed .a 98900 100000, items := items }

theorem witness_BegunStartsRecording_ends :
    (∀ x ∈ [{ bk with state := .due, placement := .placed .a 98900 100000 }, dueAtEnd ran, dueAtEnd { ran with overrun := .truncated },
        { dueAtEnd ran with nominalStop := 98200 }, dueAtEnd { ran with overrun := .opened 100000 101000 },
        dueAtEnd { ran with candidate := some ⟨.notRunning, ⟨4, true⟩, true⟩ }],
      Meets (one x []) (req 0x49 (be16 1 ++ [0, 0])) x ∧ x.state = .due ∧ x.placement = .placed .a 98900 100000) ∧
    base.time.clockSet = true ∧ 100000 ≤ base.time.seconds ∧ 98200 + base.link.settings.accurateSlack ≤ base.time.seconds ∧
    base.time.seconds < acc.nominalStop + base.link.settings.accurateSlack := by
  refine ⟨?_, by decide⟩
  intro x hx
  have hb : x.handle = 1 ∧ x.state = .due ∧ x.placement = .placed .a 98900 100000 := by
    simp at hx
    rcases hx with rfl | rfl | rfl | rfl | rfl | rfl <;> exact ⟨rfl, rfl, rfl⟩
  exact ⟨one_meets x [] _ hb.1 (by decide), hb.2⟩

theorem witness_OutcomesAreJudged_history :
    (∀ history ∈ [[], [8], List.range 24 |>.map (· + 9)],
      (withLink (series .all false history) { bk with origin := .series 3 }).link? 3 = some (series .all false history) ∧
      (withLink (series .all false history) { bk with origin := .series 3 }).booking? 1 = some { bk with origin := .series 3 }) ∧
    8 ∉ (List.range 24).map (· + 9) ∧ ((List.range 24).map (· + 9)).length = 24 ∧ bk.key = some 8 ∧
    (let x : Booking := { bk with actualStart := some 99000, actualStop := some 102610, gapSeconds := 10 }
     (x.nominalStop - x.nominalStart) * 9 ≤ (102610 - 99000 - x.gapSeconds) * 10) := by
  refine ⟨fun h _ => ⟨withLink_link _ _, rfl⟩, by decide, by decide, rfl, by decide⟩

theorem witness_OutcomesAreJudged :
    ({ rec1 with stopCause := some .cancel } : Booking).stopCause = some .cancel ∧ bk.stopCause = none ∧ bk.actualStart = none ∧
    rec1.actualStart = some rec1.nominalStart ∧ ({ rec1 with actualStop := some 103000 } : Booking).actualStop = some rec1.nominalStop ∧
    ({ following with items := { following.items with stopAt := some 103000 } } : Booking).items.stopAt = some 103000 ∧
    following.accurate = true ∧ following.items.runningAt ≠ none ∧ following.items.notRunningAt = none := by decide

theorem witness_ReportsFinish :
    parseReport (be16 1 ++ [1, 0]) = .ok 1 ∧ reportCode (be16 1 ++ [1, 0]) = 1 ∧ reportCode (be16 1 ++ [2, 0]) = 2 ∧
    reportCode (be16 1 ++ [3, 0]) = 3 ∧
    (∀ x ∈ [rec1, { rec1 with state := .stopping }, { rec1 with state := .finished }, { bk with state := .finished }, bk,
        { rec1 with gapSeconds := 999 }, { rec1 with gapSeconds := 1000 }],
      Meets (one x []) (req 0x49 (be16 1 ++ [1, 0])) x) ∧
    Meets (one { bk with state := .due } [order .start true 1]) (req 0x49 (be16 1 ++ [2, 0])) { bk with state := .due } ∧
    (one { bk with state := .due } [order .start true 1]).orderOf 1 = some (order .start true 1) ∧
    Meets (one { bk with state := .due } [order .start false 1]) (req 0x49 (be16 1 ++ [2, 0])) { bk with state := .due } := by
  refine ⟨rfl, rfl, rfl, rfl, ?_, one_meets _ _ _ rfl (by decide), rfl, one_meets _ _ _ rfl (by decide)⟩
  intro x hx
  refine one_meets x [] _ ?_ (by decide)
  simp at hx
  rcases hx with rfl | rfl | rfl | rfl | rfl | rfl | rfl <;> rfl

theorem witness_ReportsFinish_refused :
    (∀ x ∈ [{ bk with state := .finished, verdict := some ⟨.failed, .noStart⟩ },
        { bk with state := .finished, verdict := some ⟨.cancelled, .request⟩ },
        { bk with state := .finished, verdict := some ⟨.failed, .refused⟩ }, { bk with state := .due }],
      Meets (one x []) (req 0x49 (be16 1 ++ [2, 0])) x) ∧ (one { bk with state := .due } []).orderOf 1 = none ∧
    (order .start false 1).delivered = false := by
  refine ⟨fun x hx => one_meets x [] _ ?_ (by decide), rfl, rfl⟩
  simp at hx
  rcases hx with rfl | rfl | rfl | rfl <;> rfl

/-- A recording booking with a move target on tuner B. -/
def moving : Booking := { gapped with items := { gapped.items with moveTarget := some ⟨.b, 103100⟩ } }

theorem witness_MovedMovesTheRecording :
    parseReport (be16 1 ++ [4, 0]) = .ok 1 ∧ reportCode (be16 1 ++ [4, 0]) = 4 ∧
    Meets (one moving [order .move true 1]) (req 0x49 (be16 1 ++ [4, 0])) moving ∧
    (one moving [order .move true 1]).orderOf 1 = some (order .move true 1) ∧
    ((one moving []).failoverGround 1).free .b (muxOf base.catalogue.services 0) base.time.seconds 103100 = true ∧
    (({ one moving [] with monitor := { base.monitor with b := ⟨.faulted, true, false, none, none, none, none⟩ } } : State).failoverGround
      1).free .b (muxOf base.catalogue.services 0) base.time.seconds 103100 = false ∧
    Meets (one moving [order .move false 1]) (req 0x49 (be16 1 ++ [4, 0])) moving ∧ Meets (one bk []) (req 0x49 (be16 1 ++ [4, 0])) bk :=
  ⟨rfl, rfl, one_meets _ _ _ rfl (by decide), rfl, by decide +kernel, by decide +kernel, one_meets _ _ _ rfl (by decide),
    one_meets _ _ _ rfl (by decide)⟩

theorem witness_LiveClaimIsHeld :
    parseLiveClaim [1, 1] = .ok (1, .b) ∧ (∀ f, base.takes f) ∧ (findMux base.catalogue.muxes 1).isSome = true ∧
    findMux base.catalogue.muxes 2 = none ∧ base.monitor.live = none ∧
    (let s : State := { base with monitor := { base.monitor with live := some ⟨1, .b, none⟩ } }
     s.takes (req 0x40 [1, 1]) ∧ s.monitor.live = some ⟨1, .b, none⟩) ∧ base.book.records = [] :=
  ⟨rfl, base_takes, by decide, by decide, rfl, ⟨⟨rfl, rfl, Or.inl rfl⟩, rfl⟩, rfl⟩

/-- The base state with a line and a latch of tuner A as given. -/
def faulty (line latch : Bool) (c : Condition) : State :=
  { base with lines := { base.lines with faultA := line }, monitor := { base.monitor with a := { Tuner.reset with faultLatch := latch, condition := c } } }

theorem faulty_takes (line latch : Bool) (c : Condition) (f : Frame) : (faulty line latch c).takes f := ⟨rfl, rfl, Or.inl rfl⟩

theorem witness_FaultsLatch :
    parseClearFault [0] = .ok .a ∧ (faulty false false .locked).faultLine .a = false ∧ (faulty false true .faulted).faultLine .a = false ∧
    (faulty true true .faulted).faultLine .a = true ∧ (faulty true true .faulted).takes (req 0x42 [0]) ∧
    (faulty false true .faulted).takes (req 0x42 [0]) ∧ (faulty false false .locked).takes (req 0x42 [0]) ∧
    (faulty false false .locked).planner.triggered = false ∧ base.takes (req 0x43 []) :=
  ⟨rfl, rfl, rfl, rfl, faulty_takes _ _ _ _, faulty_takes _ _ _ _, faulty_takes _ _ _ _, rfl, base_takes _⟩

theorem witness_FaultsLatch_loopThrough :
    (∀ mode ∈ [FeedMode.loopThrough, .independent],
      (let s := atSettings (faulty false false .locked) fun x => { x with feedMode := mode }
       s.lines.resetn = true ∧ s.faultLine .a = false ∧ s.link.settings.feedMode = mode)) ∧
    ((after (.faultLineRise .a) (atSettings (faulty false false .locked) fun x => { x with feedMode := .loopThrough })).monitor.b.faultLatch) =
      true := ⟨fun _ _ => ⟨rfl, rfl, rfl⟩, by decide +kernel⟩

/-- The base state with tuner A and its lock line as given, and a booking recording on it. -/
def watched (u : Tuner) (lock : Bool) : State :=
  { one rec1 [] with lines := { base.lines with lockA := lock }, monitor := { base.monitor with a := u } }

theorem witness_TunersAreWatched :
    (watched ⟨.tuning, false, false, some 0, some 10, none, none⟩ true).tablesHold ∧
    (watched ⟨.tuning, false, false, some 0, some 10, none, none⟩ true).lockLine .a = true ∧
    (watched ⟨.locked, false, false, some 0, none, some ⟨2, true⟩, none⟩ false).lockLine .a = false ∧
    (⟨2, true⟩ : Count).complete = true ∧
    (watched ⟨.lost, false, false, some 0, none, none, some 1⟩ true).lockLine .a = true ∧
    (watched ⟨.locked, false, false, some 0, none, some ⟨2, true⟩, none⟩ false).booking? 1 = some rec1 ∧
    rec1.placement.tuner? = some .a ∧ rec1.items.inGap = false ∧ (watched .reset true).lines.resetn = true :=
  ⟨one_tables rec1 [] rfl (by decide), rfl, rfl, by decide, rfl, rfl, rfl, rfl, rfl⟩

theorem witness_FaultsLatch_gap :
    (∀ c ∈ [Condition.tuning, .locked],
      (let s := watched ⟨c, false, false, some 0, none, none, none⟩ true
       s.lines.resetn = true ∧ s.faultLine .a = false ∧ s.tablesHold ∧ (s.tuner .a).faultLatch = false ∧ (s.tuner .a).condition = c ∧
         s.booking? 1 = some rec1)) ∧
    (let s := atSettings (watched ⟨.locked, false, false, some 0, none, none, none⟩ true) fun x => { x with feedMode := .loopThrough }
     let t := after (.faultLineRise .a) s
     t.notices.queue.map (·.body) =
       [.tunerChange .a .faulted true (some 0) .fault, .tunerChange .b .unused true none .fault] ∧ t.monitor.b.changeLatch = true ∧
       (t.booking? 1).map (·.items.inGap) = some true) :=
  ⟨fun _ _ => ⟨rfl, rfl, one_tables rec1 [] rfl (by decide), rfl, rfl, rfl⟩, by decide +kernel⟩

/-- A recording in a gap on tuner A, as given, with a Move. -/
def lostWith (u : Tuner) (delivered : Bool) : State :=
  { watched u true with book := ⟨[moving], 2⟩, orders := ⟨[order .move delivered 1], none⟩ }

/-- The gap, the Move target and the order of the booking. -/
def gapAndMove (s : State) : Option (Bool × Option MoveTarget) × Option OrderKind :=
  ((s.booking? 1).map fun b => (b.items.inGap, b.items.moveTarget), (s.orderOf 1).map (·.kind))

theorem witness_TunersAreWatched_gap_ends :
    (∀ d, (lostWith ⟨.lost, false, false, some 0, none, none, some 1⟩ d).tablesHold ∧
      (lostWith ⟨.lost, false, false, some 0, none, none, some 1⟩ d).lockLine .a = true ∧
      (lostWith ⟨.lost, false, false, some 0, none, none, some 1⟩ d).booking? 1 = some moving ∧
      moving.state = .recording ∧ moving.placement.tuner? = some .a ∧ moving.items.inGap = true) ∧
    (let s := lostWith ⟨.lost, false, false, some 0, none, none, some 1⟩
     gapAndMove (after (.regainCountComplete .a) (s false)) = (some (false, none), none) ∧
     gapAndMove (after (.regainCountComplete .a) (s true)) = (some (false, some ⟨.b, 103100⟩), some .move) ∧
     gapAndMove ((s false).arrive .a 1) = (some (false, none), none) ∧
     gapAndMove (({ s true with wake := { WakeUnit.reset with host := .down } } : State).evaluateUse .a) =
       (some (false, some ⟨.b, 103100⟩), some .move)) :=
  ⟨fun d => ⟨one_tables moving [order .move d 1] rfl (List.pairwise_singleton _ _), rfl, rfl, rfl, rfl, rfl⟩, by decide +kernel⟩

theorem witness_FaultsLatch_gap_ends :
    (∀ d, (lostWith ⟨.faulted, true, false, some 0, none, none, none⟩ d).tablesHold ∧
      (lostWith ⟨.faulted, true, false, some 0, none, none, none⟩ d).takes (req 0x42 [0]) ∧
      (lostWith ⟨.faulted, true, false, some 0, none, none, none⟩ d).booking? 1 = some moving) ∧
    (let s := lostWith ⟨.faulted, true, false, some 0, none, none, none⟩
     gapAndMove (after (.clearFault 9 [0]) (s false)) = (some (false, none), none) ∧
     gapAndMove (after (.clearFault 9 [0]) (s true)) = (some (false, some ⟨.b, 103100⟩), some .move)) ∧
    gapAndMove (after (.faultLineRise .a) (lostWith ⟨.lost, false, false, some 0, none, none, none⟩ true)) =
      (some (true, some ⟨.b, 103100⟩), some .move) :=
  ⟨fun d => ⟨one_tables moving [order .move d 1] rfl (List.pairwise_singleton _ _), ⟨rfl, rfl, Or.inl rfl⟩, rfl⟩, by decide +kernel, by decide +kernel⟩

/-- A mark that finds the loss count at the LossHold length completes it, and a later LossHold does not take that back (R141; log 30). -/
theorem test_a_completed_count_stays_complete :
    (let low (length : Bool) := atSettings (watched ⟨.locked, false, false, some 0, none, some ⟨1, false⟩, none⟩ false) fun x =>
       { x with lossExtended := length }
     let marked := after .secondEnd (low false)
     let longer := after (.setLossHold 9 (12 :: be32 1)) marked
     marked.monitor.a.loss = some ⟨2, true⟩ ∧ longer.monitor.a.loss = some ⟨2, true⟩ ∧
       (after (.lossCountComplete .a) longer).monitor.a.condition = .lost ∧
       (after .secondEnd (low true)).monitor.a.loss = some ⟨2, false⟩ ∧
       (after (.lossCountComplete .a) (after .secondEnd (low true))).monitor.a.condition = .locked) := by decide +kernel

/-- A recording on tuner A, and a live placement there that starts with it and ends as given. -/
def carrying (u : Tuner) (stop : Option Nat) : State :=
  { one rec1 [] with monitor := { base.monitor with a := u, live := some ⟨1, .a, some ⟨.a, 1, 98900, stop, stop⟩⟩ } }

theorem witness_TunersAreWatched_use :
    ((carrying .reset none).evaluateUse .a).tuner .a = ⟨.tuning, false, true, some 1, some 0, none, none⟩ ∧
    ((carrying .reset (some 98901)).evaluateUse .a).tuner .a = ⟨.tuning, false, true, some 1, some 0, none, none⟩ ∧
    ((carrying .reset (some 98900)).evaluateUse .a).tuner .a = ⟨.tuning, false, true, some 0, some 0, none, none⟩ ∧
    ((carrying { Tuner.reset with faultLatch := true } none).evaluateUse .a).tuner .a = ⟨.faulted, true, true, some 1, none, none, none⟩ ∧
    (let s : State := { base with monitor := { base.monitor with a := ⟨.faulted, true, false, some 0, none, none, none⟩ } }
     (s.evaluateUse .a).tuner .a = ⟨.unused, true, true, none, none, none, none⟩ ∧
       (s.evaluateUse .a).notices.queue.map (·.body) = [.tunerChange .a .unused true none .release]) ∧
    base.evaluateUse .a = base ∧ (carrying ⟨.lost, false, false, some 0, none, none, none⟩ none).inUse .a = true := by decide +kernel

theorem witness_TunersAreWatched_rise :
    (∀ g ∈ [none, some 3],
      (watched ⟨.tuning, false, false, some 0, g, some ⟨1, false⟩, none⟩ false).lockLine .a = false ∧
      (watched ⟨.tuning, false, false, some 0, g, some ⟨1, false⟩, none⟩ false).tablesHold) ∧
    ((after (.lockRise .a) (watched ⟨.tuning, false, false, some 0, none, some ⟨1, false⟩, none⟩ false)).notices.queue.map (·.body)) =
      [.tunerChange .a .locked false (some 0) .grace] :=
  ⟨fun _ _ => ⟨rfl, one_tables rec1 [] rfl (by decide)⟩, by decide +kernel⟩

/-- The base state with the host asleep. -/
def asleep (w : WakeUnit) : State := { base with wake := w }

theorem witness_HostSleepsAndWakes :
    base.takes (req 0x50 [0, 7]) ∧ base.wake.host = .up ∧ (asleep { WakeUnit.reset with host := .down }).takes (req 0x50 [0, 0]) ∧
    parseHostState [1, 0] = .ok (some false) ∧ parseHostState [1, 1] = .ok (some true) ∧
    Meets (one bk []) (req 0x50 [1, 0]) bk ∧ 98900 ≤ base.time.seconds + base.link.settings.wakeLead ∧
    Meets (one rec1 []) (req 0x50 [1, 1]) rec1 ∧ base.takes (req 0x50 [1, 0]) ∧ base.tablesHold ∧ base.book.records = [] ∧
    base.orders.orders = [] :=
  ⟨base_takes _, rfl, ⟨rfl, rfl, Or.inl rfl⟩, rfl, rfl, one_meets _ _ _ rfl (by decide), by decide, one_meets _ _ _ rfl (by decide),
    base_takes _, base_tables, rfl, rfl⟩

theorem witness_HostSleepsAndWakes_replies :
    (let s : State := { base with monitor := { base.monitor with live := some ⟨1, .b, none⟩ } }
     s.takes (req 0x50 [1, 0]) ∧ s.tablesHold ∧ s.wake.host = .up ∧ s.monitor.live ≠ none ∧ s.book.records = []) ∧
    base.monitor.live = none ∧ (asleep { WakeUnit.reset with host := .down }).wake.host ≠ .up :=
  ⟨⟨⟨rfl, rfl, Or.inl rfl⟩, base_tables, rfl, by decide, rfl⟩, rfl, by decide⟩

/-- A sleeping host with a booking placed ahead and an order that waits. -/
def waitingHost (w : WakeUnit) (b : Booking) (os : List Order) : State := { one b os with wake := w }

theorem witness_WakeAttemptsGoOn_due :
    (atSettings base fun x => { x with wakeOff := true }).link.settings.wakeOff = true ∧ (asleep { WakeUnit.reset with host := .down }).wake.host = .down ∧
    ((waitingHost { WakeUnit.reset with host := .down } { bk with placement := .placed .a 100300 103100 } []).evaluateWake.wake.host) =
      .waking1 ∧
    ((waitingHost { WakeUnit.reset with host := .down } { bk with placement := .placed .a 100301 103100 } []).evaluateWake.wake) =
      { WakeUnit.reset with host := .down, due := some ⟨100301, 1⟩, wakeAt := some 100001 } ∧
    ((waitingHost { WakeUnit.reset with host := .abandoned, abandon := [1] } late [order .start false 1]).evaluateWake.wake.due) = none ∧
    ((waitingHost { WakeUnit.reset with host := .abandoned } late [order .start false 1]).evaluateWake.wake.host) = .waking1 ∧
    (let s := waitingHost { WakeUnit.reset with host := .waking2, attempt := some ⟨180, true⟩, due := some ⟨99000, 1⟩ } late [order .start false 1]
     s.book.ordered ∧ s.orders.single ∧ (s.booking? 1).isSome = true ∧ s.wake.due = some ⟨99000, 1⟩) := by
  refine ⟨rfl, rfl, by decide +kernel, by decide +kernel, by decide +kernel, by decide +kernel, ?_⟩
  exact ⟨(one_tables late [order .start false 1] rfl (by decide)).1, by unfold OrderUnit.single; decide, rfl, rfl⟩

theorem witness_WakeAttemptsGoOn :
    (asleep { WakeUnit.reset with host := .down, wakeAt := some 100000 }).wake.wakeAt = some 100000 ∧ 100000 ≤ base.time.seconds ∧
    base.link.settings.wakeOff = false ∧ base.time.clockSet = true ∧ base.lines.resetn = true ∧ base.planner.triggered = false ∧
    (asleep { WakeUnit.reset with host := .waking1, attempt := some ⟨180, true⟩ }).wake.attempt = some ⟨180, true⟩ ∧
    (⟨180, true⟩ : Count).complete = true ∧
    (asleep { WakeUnit.reset with host := .waking2, attempt := some ⟨180, true⟩ }).wake.host = .waking2 ∧ base.orders.orders = [] ∧
    (asleep { WakeUnit.reset with host := .pausing1, pause := some 2 }).wake.pause = some 2 := by decide

theorem witness_StorageIsProjected :
    parseStorageReport ([0] ++ be32 4294967295) = .ok (some 4294967295) ∧ parseStorageReport ([1] ++ be32 0) = .ok none ∧
    (∀ f, base.takes f) ∧ base.link.settings.spaceAlarm = true ∧ base.link.settings.noticeMask.getLsbD 6 = true ∧
    base.notices.queue.length < 48 ∧
    ({ base with link := { base.link with settings := { base.link.settings with spaceAlarm := false } } } : State).takes (req 0x55 []) :=
  ⟨rfl, rfl, base_takes, rfl, by decide, by decide, rfl, rfl, Or.inl rfl⟩

theorem witness_StorageIsProjected_evaluates :
    (∀ f ∈ [1999, 2000], (let s : State := { base with storage := { base.storage with free := some f } }
      s.projection = (0, 0) ∧ s.storage.low = false ∧ s.storage.free = some f ∧ s.link.settings.spaceAlarm = true ∧
        s.evaluateStorage.storage.low = decide (f < 0 + s.link.settings.spaceFloor))) ∧
    ({ base with storage := { base.storage with free := some 0, low := true } } : State).storage.low = true := by decide +kernel

theorem test_order_and_notice_records :
    (order .stop false 2).bytes = [1, 2, 0, 1, 0, 0, 0, 0] ++ be32 99000 ∧ ({ order .move true 1 with tuner := none }).bytes.getD 4 0 = 0xFF ∧
    (Notice.bytes ⟨.bookingState 3 ⟨.finished, .none, some ⟨.missed, .clash⟩, ⟨false, true, false, true, false⟩⟩, 9⟩) =
      [1, 0, 3, 0, 0, 0, 9, 5, 3, 0, 0, 0, 0, 0, 0, 0, 0, 10, 2, 4] ∧
    (Notice.bytes ⟨.bookingState 3 ⟨.due, .placed .b 1 2, none, .none⟩, 9⟩) =
      [1, 0, 3, 0, 0, 0, 9, 2, 1, 0, 0, 0, 1, 0, 0, 0, 2, 0, 0xFF, 0] ∧
    (Notice.bytes ⟨.clashFound 3 ⟨true, false, true, false, true⟩, 9⟩) = [2, 0, 3, 0, 0, 0, 9, 21] ++ List.replicate 12 0 ∧
    (Notice.bytes ⟨.clashCleared 3 .b 1 2, 9⟩) = [3, 0, 3, 0, 0, 0, 9, 1, 0, 0, 0, 1, 0, 0, 0, 2, 0, 0, 0, 0] ∧
    (Notice.bytes ⟨.seriesBooked 4 258, 9⟩) = [4, 0, 4, 0, 0, 0, 9, 1, 2] ++ List.replicate 11 0 ∧
    (Notice.bytes ⟨.seriesFull 4, 9⟩) = [5, 0, 4, 0, 0, 0, 9] ++ List.replicate 13 0 ∧
    (Notice.bytes ⟨.tunerChange .b .faulted true none .clear, 9⟩) = [6, 0, 1, 0, 0, 0, 9, 4, 1, 0xFF, 7] ++ List.replicate 9 0 ∧
    (Notice.bytes ⟨.liveYield .b 5 (some 6), 9⟩) = [7, 0, 1, 0, 0, 0, 9, 5, 1, 0, 0, 0, 6] ++ List.replicate 7 0 ∧
    (Notice.bytes ⟨.wakeFailed 2 6 258, 9⟩) = [8, 0, 0, 0, 0, 0, 9, 2, 0, 0, 0, 6, 1, 2] ++ List.replicate 6 0 ∧
    (Notice.bytes ⟨.clockStepped 6 7, 9⟩) = [9, 0, 0, 0, 0, 0, 9, 0, 0, 0, 6, 0, 0, 0, 7] ++ List.replicate 5 0 ∧
    (Notice.bytes ⟨.zoneChanged (-15) 15 .scheduled, 9⟩) = [10, 0, 0, 0, 0, 0, 9, 0xFF, 0xF1, 0, 15, 1] ++ List.replicate 8 0 ∧
    (Notice.bytes ⟨.spaceLow 1 2 258 4, 9⟩) = [11, 0, 0, 0, 0, 0, 9, 0, 0, 0, 1, 0, 0, 0, 2, 1, 2, 4, 0, 0] := by decide +kernel

theorem witness_FetchHandsOver :
    base.takes (req 0x58 []) ∧ (one late [order .start false 1]).takes (req 0x58 []) ∧ (order .start false 1).delivered = false :=
  ⟨base_takes _, one_takes _ _ _, rfl⟩

theorem witness_FetchHandsOver_many :
    (let s : State := { base with orders := ⟨(List.range 20).map fun i => { order .start false 1 with handle := i + 1 }, none⟩ }
     s.takes (req 0x58 []) ∧ s.orders.orders.length = 20 ∧ (∀ o ∈ s.orders.orders, o.delivered = false) ∧
       ((after (.fetchNotices 9 []) s).orders.orders.map (·.delivered)) = List.replicate 19 true ++ [false]) :=
  ⟨⟨rfl, rfl, Or.inl rfl⟩, by decide, by decide +kernel, by decide +kernel⟩

/-- An order handed over gives the due instant no longer (R192). -/
theorem witness_FetchHandsOver_due :
    (let s : State := { one late [order .start false 1] with
       wake := { WakeUnit.reset with host := .down, due := some ⟨100000, 1⟩, wakeAt := some 99700 } }
     let t := after (.fetchNotices 9 []) s
     s.takes (req 0x58 []) ∧ (s.orders.orders.filter fun o => !o.delivered) ≠ [] ∧ t.wake.due = none ∧ t.wake.wakeAt = none) :=
  ⟨⟨rfl, rfl, Or.inl rfl⟩, by decide, by decide +kernel, by decide +kernel⟩

/-- Two bookings, with handles 1 and 2. -/
def two (a b : Booking) : State := { base with book := ⟨[{ a with handle := 1 }, { b with handle := 2 }], 3⟩ }

theorem two_tables (a b : Booking) : (two a b).tablesHold := by
  refine ⟨⟨by simp [two], by simp [two], ?_, by simp [two], by simp [two]⟩, base_tables.2.1, base_tables.2.2⟩
  intro c hc
  simp only [two, List.mem_cons, List.not_mem_nil, or_false] at hc
  rcases hc with rfl | rfl
  · exact ⟨(by decide : 1 ≤ 1), (by decide : 1 ≤ 65535)⟩
  · exact ⟨(by decide : 1 ≤ 2), (by decide : 2 ≤ 65535)⟩

theorem witness_HostSleepsAndWakes_busy :
    (two bk rec1).takes (req 0x50 [1, 0]) ∧ (two bk rec1).tablesHold ∧ parseHostState [1, 0] = .ok (some false) ∧
    (match ((after (.hostStateStandby 9 [1, 0]) (two bk rec1)).link.phase) with
      | .sending ⟨_, _, .busy, .busy n h first⟩ => (n, h, first) == (2, 2, some 98900)
      | _ => false) = true ∧
    (match ((after (.hostStateStandby 9 [1, 0]) (two bk bk)).link.phase) with
      | .sending ⟨_, _, .busy, .busy n h first⟩ => (n, h, first) == (2, 0, some 98900)
      | _ => false) = true ∧
    (match ((after (.hostStateStandby 9 [1, 0]) (two rec1 rec1)).link.phase) with
      | .sending ⟨_, _, .busy, .busy n h first⟩ => (n, h, first) == (2, 1, none)
      | _ => false) = true :=
  ⟨⟨rfl, rfl, Or.inl rfl⟩, two_tables _ _, rfl, by decide +kernel, by decide +kernel, by decide +kernel⟩

theorem witness_RestartClears :
    Meets (one rec1 []) (req 0x02 []) rec1 ∧ rec1.placement = .placed .a 98900 103100 ∧ base.time.seconds < 103100 ∧
    Meets (one { rec1 with state := .stopping } []) (req 0x02 []) { rec1 with state := .stopping } ∧
    (∀ x ∈ [dueAtEnd .empty, ending, following, { following with nominalStop := 98200 },
        { following with items := { ran with overrun := .opened 100000 100001 } }, { acc with state := .armed },
        { acc with state := .due, items := { OrderItems.empty with report := some ⟨.paused, 99400⟩ } },
        { acc with state := .due, items := { OrderItems.empty with report := some ⟨.paused, 99399⟩ } }],
      Meets (one x []) (req 0x02 []) x) ∧
    (two rec1 ending).takes (req 0x02 []) ∧ (two rec1 ending).tablesHold ∧ (two rec1 ending).links = [] ∧
    (two rec1 ending).booking? 1 = some { rec1 with handle := 1 } ∧ (two rec1 ending).booking? 2 = some { ending with handle := 2 } ∧
    ((after (.restart 9 []) (two rec1 ending)).notices.queue.filterMap fun n => n.body.stateOf) = [1, 2] := by
  refine ⟨one_meets _ _ _ rfl (by decide), rfl, by decide, one_meets _ _ _ rfl (by decide), ?_, ⟨rfl, rfl, Or.inl rfl⟩, two_tables _ _,
    rfl, rfl, rfl, by decide +kernel⟩
  intro x hx
  refine one_meets x [] _ ?_ (by decide)
  simp at hx
  rcases hx with rfl | rfl | rfl | rfl | rfl | rfl | rfl | rfl <;> rfl

/-- Two resumed bookings go by handle; one that is resumed is told before one that is stopped, whose order stands first. -/
theorem witness_RestartClears_order :
    (let told := fun (s : State) => (after (.restart 9 []) s).notices.queue.filterMap fun n => n.body.stateOf
     let ordered := fun (s : State) => (after (.restart 9 []) s).orders.orders.map (·.handle)
     told (two rec1 rec1) = [1, 2] ∧ ordered (two rec1 rec1) = [1, 2] ∧ told (two ending rec1) = [2, 1] ∧
       ordered (two ending rec1) = [1, 2] ∧ ordered (two rec1 ending) = [2, 1]) := by decide +kernel

/-- Old notices with the lost flag, latches and counts on both tuners, and a recording that Restart resumes on tuner A. -/
def cluttered : State :=
  { one rec1 [] with
    notices := ⟨[⟨.seriesFull 1, 5⟩], true⟩
    monitor := ⟨⟨.lost, true, true, some 1, none, none, some 0⟩, ⟨.locked, true, true, some 1, none, some ⟨1, false⟩, none⟩, some ⟨1, .b, none⟩, none⟩ }

theorem witness_RestartClears_clears :
    cluttered.takes (req 0x02 []) ∧ cluttered.tablesHold ∧
    ((after (.restart 9 []) cluttered).notices.queue.all fun n => n.body != .seriesFull 1) = true ∧
    (after (.restart 9 []) cluttered).notices.lost = false ∧
    (after (.restart 9 []) cluttered).monitor.a = ⟨.faulted, true, true, some 0, none, none, none⟩ ∧
    (after (.restart 9 []) cluttered).monitor.b = ⟨.unused, true, false, none, none, none, none⟩ ∧
    (∀ b ∈ base.book.records, b.state ≠ .due ∧ b.state ≠ .recording ∧ b.state ≠ .stopping) ∧
    (after (.restart 9 []) { base with notices := cluttered.notices }).notices = ⟨[], false⟩ :=
  ⟨⟨rfl, rfl, Or.inl rfl⟩,
    ⟨(one_tables rec1 [] rfl (by decide)).1, (one_tables rec1 [] rfl (by decide)).2.1, by unfold NoticeQueue.bounded; decide⟩,
    by decide +kernel, by decide +kernel, by decide +kernel, by decide +kernel, by decide, by decide +kernel⟩

/-- An Armed booking is a blocker wherever its effective start lies, and Unplaced too; a Pending one only by its effective start
(R162, log 54). -/
theorem test_armed_is_always_a_blocker :
    ((one { armed with placement := .placed .a 100301 103100 } []).blockers.map (·.handle)) = [1] ∧
    ((one { armed with placement := .unplaced .none } []).blockers.map (·.handle)) = [1] ∧
    (one { armed with state := .pending, placement := .placed .a 100301 103100 } []).blockers = [] ∧
    ((one { armed with state := .pending, placement := .placed .a 100300 103100 } []).blockers.map (·.handle)) = [1] ∧
    (one { armed with state := .pending, placement := .unplaced .none } []).blockers = [] := by decide +kernel

end Sys2Proof.Tests
end

section
/-! The values after a power-on reset, and the requests of the clock that ask for no pass (R1, R8, R9, R12). -/

namespace Sys2Proof.Machine

/-! ## Power-on values -/

/-- Both tuners start unused, with clear latches and no count running (R140). -/
theorem State.reset_tuner (x : TunerId) : State.reset.tuner x = .reset := by
  cases x with
  | a => rfl
  | b => rfl

/-! ## The frames of the clock's requests -/

/-- A TimeReport that is read has a body of four bytes (R215). -/
theorem length_of_parseTimeReport {body : List Byte} {b : Nat} (h : parseTimeReport body = .ok b) : body.length = 4 := by
  unfold parseTimeReport at h
  split at h
  · rfl
  · cases h

/-- A ZoneReport that is read has a body of nine bytes (R215). -/
theorem length_of_parseZoneReport {body : List Byte} {z : ZoneFields} (h : parseZoneReport body = .ok z) : body.length = 9 := by
  unfold parseZoneReport at h
  split at h
  · rfl
  · cases h

theorem timeReport_wellFormed {tag : Byte} {body : List Byte} {b : Nat} (h : parseTimeReport body = .ok b) :
    (Instr.timeReport tag body).wellFormed = true := by
  simp [Instr.wellFormed, bodyFits, Config.maxBody, length_of_parseTimeReport h]

theorem zoneReport_wellFormed {tag : Byte} {body : List Byte} {z : ZoneFields} (h : parseZoneReport body = .ok z) :
    (Instr.zoneReport tag body).wellFormed = true := by
  simp [Instr.wellFormed, bodyFits, Config.maxBody, length_of_parseZoneReport h]

/-- TIME_REPORT is the request of its owner on the time read. -/
theorem exec_timeReport {tag : Byte} {body : List Byte} {b : Nat} (h : parseTimeReport body = .ok b) (s : State) :
    exec (.timeReport tag body) s =
      request (.timeReport tag body) ⟨tag, 0x10, body⟩ (fun u => u.timeReport b) s := by
  show request _ _ (parsed (parseTimeReport body) _) s = _
  rw [h]
  rfl

/-- ZONE_REPORT is the request of its owner on the fields read. -/
theorem exec_zoneReport {tag : Byte} {body : List Byte} {z : ZoneFields} (h : parseZoneReport body = .ok z) (s : State) :
    exec (.zoneReport tag body) s =
      request (.zoneReport tag body) ⟨tag, 0x11, body⟩ (fun u => u.zoneReport z) s := by
  show request _ _ (parsed (parseZoneReport body) _) s = _
  rw [h]
  rfl

/-- The kinds of the replies to TimeReport and QueryTime (R204). -/
theorem replyKind_timeReport : replyKind 0x10 = 0x90 := by decide
theorem replyKind_queryTime : replyKind 0x12 = 0x92 := by decide

/-- Taking a frame and setting the clock commute. -/
theorem State.taken_setTime (s : State) (f : Frame) (x : TimeBase) : (s.taken f).setTime x = (s.setTime x).taken f := by
  unfold State.taken
  rw [State.setTime_link]
  split <;> rfl

/-! ## A report that slews (R8, R9) -/

/-- With B less than 3600 s after every capture, the report slews and nothing else changes (R8). -/
theorem TimeBase.slewTo_plain {t : TimeBase} {offset : Int} {b : Nat} (h : ∀ k, t.capture = some k → b < k.b0 + 3600) :
    t.slewTo offset b = ({ t with slew := -offset }, .slewed, false) := by
  have hn : t.driftCapture b = none := by
    unfold TimeBase.driftCapture
    cases hk : t.capture with
    | none => rfl
    | some k => exact if_neg (Nat.not_le.mpr (h k hk))
  unfold TimeBase.slewTo
  rw [hn]

/-- With B at least 3600 s after the capture, the trim takes the drift estimate and the capture starts again (R9). -/
theorem TimeBase.slewTo_drift {t : TimeBase} {k : Capture} {offset : Int} {b : Nat} (hk : t.capture = some k) (h : k.b0 + 3600 ≤ b) :
    t.slewTo offset b =
      ({ t with
          slew := -offset
          capture := some ⟨b, offset, 0⟩
          trim := max (-255) (min 255 (t.trim - roundAway (((offset - k.applied) - k.offset0) * 32) (b - k.b0))) },
        .slewedWithDrift,
        max (-255) (min 255 (t.trim - roundAway (((offset - k.applied) - k.offset0) * 32) (b - k.b0))) !=
          t.trim - roundAway (((offset - k.applied) - k.offset0) * 32) (b - k.b0)) := by
  have hd : t.driftCapture b = some k := by
    unfold TimeBase.driftCapture
    rw [hk]
    exact if_pos h
  unfold TimeBase.slewTo
  rw [hd]
  rfl

/-- An offset below two seconds is told as it is (R10). -/
theorem saturate32_of_small {x : Int} (h : x.natAbs < 65536) : saturate32 x = x := by
  unfold saturate32 clampInt
  omega

/-- A report that slews writes the clock and asks for no pass (R8, R10). -/
theorem State.timeReport_slews {s : State} {b : Nat} {offset : Int} (hoff : s.time.offsetFrom b = offset) (hs : s.time.clockSet = true)
    (hn : offset.natAbs < 65536) {t : TimeBase} {action : TimeAction} {limited : Bool}
    (hr : s.time.slewTo offset b = (t, action, limited)) :
    s.timeReport b = (s.setTime t, .done .ok (.time action offset t.seconds t.trim t.slew limited none)) := by
  have hst : s.time.steps offset = false := by
    unfold TimeBase.steps
    simp [hs, hn]
  unfold State.timeReport
  simp only [hoff, hst, hr, saturate32_of_small hn]
  rfl

/-- A TIME_REPORT that slews: the clock it writes, no pass, and the reply at once (R8, R10). -/
theorem exec_timeReport_slews {tag : Byte} {body : List Byte} {b : Nat} {s : State} {offset : Int} (hp : parseTimeReport body = .ok b)
    (ht : s.takes ⟨tag, 0x10, body⟩) (hoff : s.time.offsetFrom b = offset) (hs : s.time.clockSet = true) (hn : offset.natAbs < 65536)
    {x : TimeBase} {action : TimeAction} {limited : Bool} (hr : s.time.slewTo offset b = (x, action, limited)) :
    ∃ t, exec (.timeReport tag body) s = .next t ∧ t.planner = s.planner ∧ t.becomes (s.setTime x) ∧
      t.sends ⟨tag, 0x90, .ok, .time action offset x.seconds x.trim x.slew limited none⟩ := by
  have ho : (s.taken ⟨tag, 0x10, body⟩).timeReport b =
      ((s.setTime x).taken ⟨tag, 0x10, body⟩, .done .ok (.time action offset x.seconds x.trim x.slew limited none)) := by
    rw [← State.taken_setTime]
    exact State.timeReport_slews (by simpa using hoff) (by simpa using hs) hn (by simpa using hr)
  obtain ⟨t, h1, h2, h3, h4⟩ := request_sends (owner := fun u => u.timeReport b) (timeReport_wellFormed (tag := tag) hp) ht
    (by rw [ho]; simpa using ht.2.1)
  rw [ho] at h2 h3 h4
  exact ⟨t, (exec_timeReport hp s).trans h1, by simpa using h4, State.taken_becomes h3, replyKind_timeReport ▸ h2⟩

end Sys2Proof.Machine

open Sys2Proof Sys2Proof.Machine

/-- Settles O6: every block's reset record holds the values of its state table. -/
theorem resetValues : Obligations.ResetValues := by
  unfold Obligations.ResetValues
  refine ⟨?time, ?tables, ?planner, ?orders, ?tuners, ?monitor, ?wake, ?storage, ?notices, ?link, rfl, ?lines, rfl⟩
  case tuners =>
    intro x
    rw [State.reset_tuner]
    decide
  all_goals decide

/-- Settles O24: the owner returns the state it was given, so the request changes nothing. -/
theorem queryTimeAnswers : Obligations.QueryTimeAnswers := by
  unfold Obligations.QueryTimeAnswers
  intro tag s ht
  obtain ⟨t, h1, h2, h3⟩ := request_still (row := .queryTime tag []) (f := ⟨tag, 0x12, []⟩)
    (owner := fun u => (u, .done .ok (.clock u.time.seconds u.time.sub u.time.trim u.time.slew u.time.clockSet u.time.zone
      u.time.nextChange)))
    (r := .ok) (d := .clock s.time.seconds s.time.sub s.time.trim s.time.slew s.time.clockSet s.time.zone s.time.nextChange)
    rfl ht (fun u hu => by rw [hu]; simp)
  exact ⟨t, h1, h3, replyKind_queryTime ▸ h2⟩

/-- Settles O23: whether the report estimates the drift is the case split of R9. -/
theorem timeReportSlews : Obligations.TimeReportSlews := by
  unfold Obligations.TimeReportSlews
  intro tag body b s hp ht hs hn
  by_cases hd : ∃ k, s.time.capture = some k ∧ k.b0 + 3600 ≤ b
  · obtain ⟨k, hk, hle⟩ := hd
    obtain ⟨t, h1, h2, h3, h4⟩ := exec_timeReport_slews hp ht rfl hs hn (TimeBase.slewTo_drift hk hle)
    have htime : t.time = _ := congrArg (·.1) h3.1
    refine ⟨t, h1, h2, fun k' hk' _ => ?_, fun hlt => absurd (hlt k hk) (Nat.not_lt.mpr hle)⟩
    obtain rfl : k = k' := Option.some.inj (hk.symm.trans hk')
    rw [htime]
    exact ⟨h3, h4⟩
  · have hlt : ∀ k, s.time.capture = some k → b < k.b0 + 3600 := fun k hk => Nat.lt_of_not_le fun hle => hd ⟨k, hk, hle⟩
    obtain ⟨t, h1, h2, h3, h4⟩ := exec_timeReport_slews hp ht rfl hs hn (TimeBase.slewTo_plain hlt)
    exact ⟨t, h1, h2, fun k hk hle => absurd (hlt k hk) (Nat.not_lt.mpr hle), fun _ => ⟨h3, h4⟩⟩

end

section
/-! The start of a local day (R17, R33, R79). -/

namespace Sys2Proof.Machine

/-- A local day start is due when the clock is set and today is past the last local date (R17). -/
theorem State.dayStartDue_of_past {s : State} (hs : s.time.clockSet = true) (hd : ∀ d, s.time.lastDate = some d → d < s.today) :
    s.dayStartDue = true := by
  unfold State.dayStartDue
  cases hl : s.time.lastDate with
  | none => simp [hs]
  | some d => simp [hs, hd d hl]

/-- The clock of s, its guide, its catalogue and its settings stand through instantiation (R79). -/
theorem State.instantiateAll_around (s : State) (retime : Bool) :
    (s.instantiateAll retime).time = s.time ∧ (s.instantiateAll retime).catalogue = s.catalogue ∧
      (s.instantiateAll retime).guide = s.guide ∧ (s.instantiateAll retime).link = s.link := by
  have h := s.instantiateAll_shell retime
  simp only [State.shell, Prod.mk.injEq] at h
  obtain ⟨htime, hcat, hguide, hlink, _, _⟩ := h
  exact ⟨htime, hcat, hguide, hlink⟩

/-- With the clock set, expiry keeps the events that are exempt or ended at most 3600 s ago (R33). -/
theorem State.expire_of_clockSet {s : State} (hs : s.time.clockSet = true) :
    s.expire = s.setGuide (s.guide.filter fun e => !(decide (e.start + e.duration + 3600 < s.time.seconds) && !s.exempt e)) := by
  unfold State.expire State.stale Event.stop State.now
  rw [hs]
  rfl

/-- What a local day start does, in the order of its parts (R17, R33, R79). -/
theorem State.startDay_eq {s : State} (hs : s.time.clockSet = true) :
    s.startDay = ((s.setTime { s.time with lastDate := some s.today }).setGuide
      (s.guide.filter fun e => !(decide (e.start + e.duration + 3600 < s.time.seconds) && !s.exempt e))).instantiateAll false := by
  unfold State.startDay
  rw [State.expire_of_clockSet (s := s.setTime { s.time with lastDate := some s.today }) hs]
  rfl

end Sys2Proof.Machine

open Sys2Proof Sys2Proof.Machine

/-- Settles O27: instantiation, the last part of a day start, leaves clock and guide as the parts before it made them. -/
theorem localDayStarts : Obligations.LocalDayStarts := by
  unfold Obligations.LocalDayStarts
  intro s hr hs hd
  obtain ⟨t, hexec, _, rfl⟩ := event_becomes (act := State.startDay) hr (State.dayStartDue_of_past hs hd)
  have heq := State.startDay_eq hs
  obtain ⟨htime, hcat, hguide, hlink⟩ := State.instantiateAll_around ((s.setTime { s.time with lastDate := some s.today }).setGuide
      (s.guide.filter fun e => !(decide (e.start + e.duration + 3600 < s.time.seconds) && !s.exempt e))) false
  rw [← heq] at htime hcat hguide hlink
  refine ⟨_, hexec, ?time, ?guide, ?core, ?catalogue, ?settings⟩
  case time => rw [State.settle_time, htime]; rfl
  case guide => rw [State.settle_guide, hguide]; rfl
  case core => rw [State.settle_core, State.settle_time, State.settle_guide, htime, hguide, heq]; rfl
  case catalogue => rw [State.settle_catalogue, hcat]; rfl
  case settings => rw [State.settle_settings, hlink]; rfl

end

section
/-! The service state behind the scenes: which frame is in service, and the level of RTS, are read by no block behind the link. Every
operation on bookings, links, orders, tuners and the clock commutes with writing them (`inService`), so what a request's owner makes of the
tables is the same before and after its frame is taken. -/

namespace Sys2Proof.Machine

/-- The request queue, the service state and the level of RTS: all that taking a frame writes (R202). -/
abbrev Serving := List Frame × ServicePhase × Bool

/-- s with the service as given. -/
def State.inService (s : State) (v : Serving) : State :=
  (s.setLink { s.link with requests := v.1, phase := v.2.1 }).setLines { s.lines with rts := v.2.2 }

/-- A state after work of a link, with the service as given. -/
def Matched.inService (m : Matched) (v : Serving) : Matched := ⟨m.state.inService v, m.refused, m.created⟩

/-- Taking a frame writes the service and nothing else. -/
theorem State.taken_eq_inService (s : State) (f : Frame) : ∃ v, s.taken f = s.inService v := by
  unfold State.taken
  split
  · exact ⟨([f], .applying, _), rfl⟩
  · exact ⟨(s.link.requests, s.link.phase, s.lines.rts), rfl⟩

section
variable (s : State) (v : Serving)

/-! ## What the blocks read -/

@[simp] theorem State.inService_core : (s.inService v).core = s.core := rfl
@[simp] theorem State.inService_time : (s.inService v).time = s.time := rfl
@[simp] theorem State.inService_catalogue : (s.inService v).catalogue = s.catalogue := rfl
@[simp] theorem State.inService_guide : (s.inService v).guide = s.guide := rfl
@[simp] theorem State.inService_links : (s.inService v).links = s.links := rfl
@[simp] theorem State.inService_book : (s.inService v).book = s.book := rfl
@[simp] theorem State.inService_planner : (s.inService v).planner = s.planner := rfl
@[simp] theorem State.inService_orders : (s.inService v).orders = s.orders := rfl
@[simp] theorem State.inService_monitor : (s.inService v).monitor = s.monitor := rfl
@[simp] theorem State.inService_wake : (s.inService v).wake = s.wake := rfl
@[simp] theorem State.inService_notices : (s.inService v).notices = s.notices := rfl
@[simp] theorem State.inService_settings : (s.inService v).settings = s.settings := rfl
@[simp] theorem State.inService_now : (s.inService v).now = s.now := rfl
@[simp] theorem State.inService_today : (s.inService v).today = s.today := rfl
@[simp] theorem State.inService_handles : (s.inService v).handles = s.handles := rfl
@[simp] theorem State.inService_booking (h : Nat) : (s.inService v).booking? h = s.booking? h := rfl
@[simp] theorem State.inService_link (i : Nat) : (s.inService v).link? i = s.link? i := rfl
@[simp] theorem State.inService_orderOf (h : Nat) : (s.inService v).orderOf h = s.orderOf h := rfl
@[simp] theorem State.inService_tuner (x : TunerId) : (s.inService v).tuner x = s.tuner x := by cases x <;> rfl
@[simp] theorem State.inService_inUse (x : TunerId) : (s.inService v).inUse x = s.inUse x := rfl
@[simp] theorem State.inService_tunedFor (x : TunerId) : (s.inService v).tunedFor x = s.tunedFor x := rfl
@[simp] theorem State.inService_slackEnd (b : Booking) : (s.inService v).slackEnd b = s.slackEnd b := rfl
@[simp] theorem State.inService_claimOpen (h : Nat) : (s.inService v).claimOpen h = s.claimOpen h := rfl
@[simp] theorem State.inService_holdsDelivered (h : Nat) (k : OrderKind) :
    (s.inService v).holdsDelivered h k = s.holdsDelivered h k := rfl
@[simp] theorem State.inService_holdsUndelivered (h : Nat) (k : OrderKind) :
    (s.inService v).holdsUndelivered h k = s.holdsUndelivered h k := rfl
@[simp] theorem State.inService_occurrences (i : Nat) : (s.inService v).occurrences i = s.occurrences i := rfl
@[simp] theorem State.inService_occurrence (w : BitVec 7) (m d : Nat) (day : Int) :
    (s.inService v).occurrence w m d day = s.occurrence w m d day := rfl
@[simp] theorem State.inService_offered (l : Link) (e : Event) : (s.inService v).offered l e = s.offered l e := rfl
@[simp] theorem State.inService_chief (i key : Nat) : (s.inService v).chief i key = s.chief i key := rfl
@[simp] theorem State.inService_nextChangeDue : (s.inService v).nextChangeDue = s.nextChangeDue := rfl

/-! ## Updates that test nothing -/

@[simp] theorem State.setTime_inService (x : TimeBase) : (s.inService v).setTime x = (s.setTime x).inService v := rfl
@[simp] theorem State.setLinks_inService (x : List Link) : (s.inService v).setLinks x = (s.setLinks x).inService v := rfl
@[simp] theorem State.setBook_inService (x : BookingTable) : (s.inService v).setBook x = (s.setBook x).inService v := rfl
@[simp] theorem State.setPlanner_inService (x : Planner) : (s.inService v).setPlanner x = (s.setPlanner x).inService v := rfl
@[simp] theorem State.setOrders_inService (x : OrderUnit) : (s.inService v).setOrders x = (s.setOrders x).inService v := rfl
@[simp] theorem State.setMonitor_inService (x : TunerMonitor) : (s.inService v).setMonitor x = (s.setMonitor x).inService v := rfl
@[simp] theorem State.setWake_inService (x : WakeUnit) : (s.inService v).setWake x = (s.setWake x).inService v := rfl
@[simp] theorem State.setNotices_inService (x : NoticeQueue) : (s.inService v).setNotices x = (s.setNotices x).inService v := rfl
@[simp] theorem State.setOrderList_inService (x : List Order) : (s.inService v).setOrderList x = (s.setOrderList x).inService v := rfl
@[simp] theorem State.modBooking_inService (h : Nat) (f : Booking → Booking) :
    (s.inService v).modBooking h f = (s.modBooking h f).inService v := rfl
@[simp] theorem State.modItems_inService (h : Nat) (f : OrderItems → OrderItems) :
    (s.inService v).modItems h f = (s.modItems h f).inService v := rfl
@[simp] theorem State.modLink_inService (i : Nat) (f : Link → Link) : (s.inService v).modLink i f = (s.modLink i f).inService v := rfl
@[simp] theorem State.modOccurrences_inService (i : Nat) (f : List Occurrence → List Occurrence) :
    (s.inService v).modOccurrences i f = (s.modOccurrences i f).inService v := rfl
@[simp] theorem State.settleStarved_inService (i : Nat) (r : Bool) :
    (s.inService v).settleStarved i r = (s.settleStarved i r).inService v := rfl
@[simp] theorem State.trigger_inService : (s.inService v).trigger = s.trigger.inService v := rfl
@[simp] theorem State.offer_inService (body : NoticeBody) : (s.inService v).offer body = (s.offer body).inService v := rfl
@[simp] theorem State.leaveAbandon_inService (h : Nat) : (s.inService v).leaveAbandon h = (s.leaveAbandon h).inService v := rfl
@[simp] theorem State.setStepHold_inService : (s.inService v).setStepHold = s.setStepHold.inService v := rfl
@[simp] theorem State.forgetReached_inService : (s.inService v).forgetReached = s.forgetReached.inService v := rfl
@[simp] theorem State.beginGap_inService (h : Nat) : (s.inService v).beginGap h = (s.beginGap h).inService v := rfl
@[simp] theorem State.endGap_inService (h : Nat) : (s.inService v).endGap h = (s.endGap h).inService v := rfl
@[simp] theorem State.setTuner_inService (x : TunerId) (t : Tuner) : (s.inService v).setTuner x t = (s.setTuner x t).inService v := by
  cases x <;> rfl

/-! ## Choices and lists -/

@[simp] theorem ite_inService {c : Prop} [Decidable c] (t : State) :
    (if c then s.inService v else t.inService v) = (if c then s else t).inService v := by
  split <;> rfl

theorem foldl_inService {α : Type} {f : State → α → State} (hf : ∀ s a, f (s.inService v) a = (f s a).inService v) (l : List α) :
    l.foldl f (s.inService v) = (l.foldl f s).inService v := by
  induction l generalizing s with
  | nil => rfl
  | cons a l ih => rw [List.foldl_cons, hf, ih]; rfl

theorem foldl_matched_inService {α : Type} {f : Matched → α → Matched} (hf : ∀ m a, f (m.inService v) a = (f m a).inService v)
    (l : List α) (m : Matched) : l.foldl f (m.inService v) = (l.foldl f m).inService v := by
  induction l generalizing m with
  | nil => rfl
  | cons a l ih => rw [List.foldl_cons, hf, ih]; rfl

theorem State.eachBooking_inService {rule : State → Nat → State} (hr : ∀ s h, rule (s.inService v) h = (rule s h).inService v) :
    (s.inService v).eachBooking rule = (s.eachBooking rule).inService v := foldl_inService s v hr s.handles

/-! ## Passes, notices, orders, the due instant -/

@[simp] theorem State.markChanged_inService (h : Nat) : (s.inService v).markChanged h = (s.markChanged h).inService v := by
  unfold State.markChanged
  rw [State.inService_planner]
  cases s.planner.running <;> rfl
@[simp] theorem State.bookingChanged_inService (h : Nat) : (s.inService v).bookingChanged h = (s.bookingChanged h).inService v := by
  simp [State.bookingChanged]
@[simp] theorem State.noteState_inService (h : Nat) : (s.inService v).noteState h = (s.noteState h).inService v := by
  unfold State.noteState
  rw [State.inService_booking]
  cases s.booking? h <;> rfl
@[simp] theorem State.evaluateWake_inService : (s.inService v).evaluateWake = s.evaluateWake.inService v := by
  unfold State.evaluateWake
  rw [← ite_inService, ← ite_inService]
  rfl
@[simp] theorem State.afterRemoval_inService (old : Option Order) :
    (s.inService v).afterRemoval old = (s.afterRemoval old).inService v := by
  unfold State.afterRemoval
  cases old <;> simp
@[simp] theorem State.removeOrder_inService (h : Nat) : (s.inService v).removeOrder h = (s.removeOrder h).inService v := by
  simp [State.removeOrder]
@[simp] theorem State.issue_inService (kind : OrderKind) (h : Nat) (tuner : Option TunerId) (attempt : Nat) (onRunning : Bool) :
    (s.inService v).issue kind h tuner attempt onRunning = (s.issue kind h tuner attempt onRunning).inService v := by
  unfold State.issue
  rw [State.inService_booking]
  cases s.booking? h <;> simp
@[simp] theorem State.stop_inService (h : Nat) (cause : StopCause) (truncated : Bool) :
    (s.inService v).stop h cause truncated = (s.stop h cause truncated).inService v := by
  unfold State.stop
  cases hc : s.claimOpen h <;> simp [hc]

/-! ## The Series Matcher -/

@[simp] theorem State.create_inService (make : Nat → Booking) :
    (s.inService v).create make = (s.create make).map fun p => (p.1, p.2.inService v) := by
  unfold State.create
  rw [State.inService_book]
  split <;> rfl
@[simp] theorem State.takeFromAlternatives_inService (ref : EventRef) :
    (s.inService v).takeFromAlternatives ref = (s.takeFromAlternatives ref).inService v := by
  unfold State.takeFromAlternatives
  exact foldl_inService s v (fun _ _ => by simp) _
@[simp] theorem State.starve_inService (i : Nat) : (s.inService v).starve i = (s.starve i).inService v := by
  unfold State.starve
  rw [State.inService_link]
  cases s.link? i <;> simp
@[simp] theorem State.createOnEvent_inService (l : Link) (e : Event) :
    (s.inService v).createOnEvent l e = (s.createOnEvent l e).inService v := by
  unfold State.createOnEvent
  rw [State.create_inService]
  cases s.create _ <;> simp [Matched.inService]
@[simp] theorem State.addAlternative_inService (b : Booking) (e : Event) :
    (s.inService v).addAlternative b e = (s.addAlternative b e).inService v := by
  simp [State.addAlternative]
@[simp] theorem State.switchAiring_inService (b : Booking) (e : Event) :
    (s.inService v).switchAiring b e = (s.switchAiring b e).inService v := by
  simp [State.switchAiring]
@[simp] theorem State.matchEpisode_inService (l : Link) (e : Event) (key : Nat) (history : List Nat) :
    (s.inService v).matchEpisode l e key history = (s.matchEpisode l e key history).inService v := by
  unfold State.matchEpisode
  rw [State.inService_chief]
  cases s.chief l.index key
  all_goals
    dsimp only
    repeat' split
    all_goals simp [Matched.inService]
@[simp] theorem State.matchOne_inService (i : Nat) (e : Event) : (s.inService v).matchOne i e = (s.matchOne i e).inService v := by
  unfold State.matchOne
  rw [State.inService_link]
  cases s.link? i with
  | none => rfl
  | some l =>
    simp only [State.inService_offered, State.createOnEvent_inService, State.matchEpisode_inService]
    split
    · split <;> rfl
    · rfl
@[simp] theorem State.fullMatch_inService (i : Nat) : (s.inService v).fullMatch i = (s.fullMatch i).inService v := by
  unfold State.fullMatch
  rw [State.inService_link]
  cases s.link? i with
  | none => rfl
  | some l =>
    have hm := foldl_matched_inService v (f := fun m e =>
      let n := m.state.matchOne i e
      ⟨n.state, m.refused || n.refused, m.created + n.created⟩) (fun m e => by simp [Matched.inService])
      (s.guide.filter l.carries) ⟨s, false, 0⟩
    have hall : (s.inService v).matchAll i (s.guide.filter l.carries) = (s.matchAll i (s.guide.filter l.carries)).inService v := hm
    simp [hall, Matched.inService]
@[simp] theorem State.bookDay_inService (l : Link) (service : Nat) (w : BitVec 7) (m d : Nat) (day : Int) :
    (s.inService v).bookDay l service w m d day = (s.bookDay l service w m d day).inService v := by
  unfold State.bookDay
  simp only [State.inService_occurrence, State.inService_occurrences, State.inService_book, State.create_inService]
  cases s.occurrence w m d day with
  | none => rfl
  | some u =>
    dsimp only
    split
    · rfl
    · cases List.find? _ s.book.records with
      | some b => rfl
      | none => cases s.create _ <;> simp [Matched.inService]
@[simp] theorem State.retimeEntry_inService (l : Link) (m d : Nat) (o : Occurrence) :
    (s.inService v).retimeEntry l m d o = (s.retimeEntry l m d o).inService v := by
  unfold State.retimeEntry
  rw [State.inService_booking]
  cases s.booking? o.handle with
  | none => rfl
  | some b =>
    dsimp only
    by_cases hp : b.state = .pending ∧ b.origin = .slot l.index ∧ s.now < b.nominalStart
    · rw [if_pos hp, State.inService_now, State.inService_time, if_pos hp]
      cases toUtc s.time.zone s.time.nextChange o.day m <;> simp
    · rw [if_neg hp, State.inService_now, if_neg hp]
@[simp] theorem State.instantiate_inService (i : Nat) (retime : Bool) :
    (s.inService v).instantiate i retime = (s.instantiate i retime).inService v := by
  unfold State.instantiate
  rw [State.inService_time, State.inService_link]
  split
  · cases s.link? i with
    | none => rfl
    | some l =>
      dsimp only
      cases l.part with
      | series => rfl
      | slot service w m d occurrences =>
        dsimp only
        have days := fun u : State => foldl_matched_inService v (f := fun n day =>
          let k := n.state.bookDay l service w m d day
          ⟨k.state, n.refused || k.refused, n.created + k.created⟩) (fun n day => by simp [Matched.inService])
          (eightDays s.today) ⟨u, false, 0⟩
        simp only [Matched.inService] at days
        have entries := fun (u : State) (os : List Occurrence) => foldl_inService u v (f := fun u o => u.retimeEntry l m d o)
          (fun u o => State.retimeEntry_inService u v l m d o) os
        simp only [State.modOccurrences_inService, State.inService_today, State.inService_occurrences, Matched.inService,
          entries, ite_inService, days, State.settleStarved_inService]
        rfl
  · rfl
@[simp] theorem State.instantiateAll_inService (retime : Bool) :
    (s.inService v).instantiateAll retime = (s.instantiateAll retime).inService v := by
  unfold State.instantiateAll
  exact foldl_inService s v (fun _ _ => by simp [Matched.inService]) _
@[simp] theorem State.retry_inService (i : Nat) : (s.inService v).retry i = (s.retry i).inService v := by
  unfold State.retry
  rw [State.inService_link]
  cases s.link? i with
  | none => rfl
  | some l => cases l with | mk _ _ _ _ _ _ part => cases part <;> simp [Matched.inService]
@[simp] theorem State.retryStarved_inService : (s.inService v).retryStarved = s.retryStarved.inService v := by
  unfold State.retryStarved
  exact foldl_inService s v (fun _ _ => by simp) _
@[simp] theorem State.keepHistory_inService (b : Booking) (w : Verdict) :
    (s.inService v).keepHistory b w = (s.keepHistory b w).inService v := by
  unfold State.keepHistory
  cases b.origin <;> cases b.key <;> simp

/-! ## Tuners -/

@[simp] theorem State.endGapOfTuner_inService (h : Nat) : (s.inService v).endGapOfTuner h = (s.endGapOfTuner h).inService v := by
  simp [State.endGapOfTuner]
@[simp] theorem State.gapsBegin_inService (x : TunerId) : (s.inService v).gapsBegin x = (s.gapsBegin x).inService v := by
  unfold State.gapsBegin
  exact foldl_inService s v (fun _ _ => by simp) _
@[simp] theorem State.gapsEnd_inService (x : TunerId) : (s.inService v).gapsEnd x = (s.gapsEnd x).inService v := by
  unfold State.gapsEnd
  exact foldl_inService s v (fun _ _ => by simp) _
@[simp] theorem State.changeTuner_inService (x : TunerId) (new : Tuner) (cause : ChangeCause) :
    (s.inService v).changeTuner x new cause = (s.changeTuner x new cause).inService v := by
  simp [State.changeTuner]
@[simp] theorem State.evaluateUse_inService (x : TunerId) : (s.inService v).evaluateUse x = (s.evaluateUse x).inService v := by
  simp [State.evaluateUse, State.comeIntoUse, State.goOutOfUse]
@[simp] theorem State.evaluateTuners_inService : (s.inService v).evaluateTuners = s.evaluateTuners.inService v := by
  simp [State.evaluateTuners]

/-! ## Finishing, and the clock -/

@[simp] theorem State.finish_inService (h : Nat) (w : Verdict) (u : Bool) :
    (s.inService v).finish h w u = (s.finish h w u).inService v := by
  unfold State.finish State.finishCore
  rw [State.inService_booking]
  cases s.booking? h <;> simp
@[simp] theorem State.setZone_inService (o : Int) (c : ZoneCause) : (s.inService v).setZone o c = (s.setZone o c).inService v := by
  unfold State.setZone
  by_cases ho : s.time.zone = o <;> simp [ho]
@[simp] theorem State.takeNextChange_inService : (s.inService v).takeNextChange = s.takeNextChange.inService v := by
  unfold State.takeNextChange
  rw [State.inService_time]
  cases s.time.nextChange <;> simp
@[simp] theorem State.bookingStep_inService : (s.inService v).bookingStep = s.bookingStep.inService v := by
  unfold State.bookingStep
  refine State.eachBooking_inService s v fun u h => ?_
  rw [State.inService_booking]
  cases u.booking? h <;> simp
@[simp] theorem State.stepEnds_inService : (s.inService v).stepEnds = s.stepEnds.inService v := by
  unfold State.stepEnds
  refine State.eachBooking_inService s v fun u h => ?_
  rw [State.inService_booking]
  cases u.booking? h with
  | none => rfl
  | some b =>
    dsimp only
    cases b.placement.stop? <;> simp
@[simp] theorem State.stepSlack_inService : (s.inService v).stepSlack = s.stepSlack.inService v := by
  unfold State.stepSlack
  refine State.eachBooking_inService s v fun u h => ?_
  rw [State.inService_booking]
  cases u.booking? h <;> simp
@[simp] theorem State.stepArmed_inService : (s.inService v).stepArmed = s.stepArmed.inService v := by
  unfold State.stepArmed
  refine State.eachBooking_inService s v fun u h => ?_
  rw [State.inService_booking]
  cases u.booking? h <;> simp
@[simp] theorem State.stepDue_inService : (s.inService v).stepDue = s.stepDue.inService v := by
  unfold State.stepDue
  refine State.eachBooking_inService s v fun u h => ?_
  rw [State.inService_booking]
  cases u.booking? h <;> simp
@[simp] theorem State.orderStep_inService (old : Nat) : (s.inService v).orderStep old = (s.orderStep old).inService v := by
  simp [State.orderStep]
@[simp] theorem State.stepClock_inService (b : Nat) : (s.inService v).stepClock b = (s.stepClock b).inService v := by
  simp [State.stepClock]

end

end Sys2Proof.Machine
end

section
/-! The zone: reports, the announced change, local reckoning and the retiming of slot bookings (R13 to R15, R78, R80). -/

namespace Sys2Proof.Machine

/-! ## What a change of the zone offset writes -/

/-- The notice queue once a change of the zone offset is told, when it is one (R15). -/
def State.tellZone (s : State) (old new : Int) (cause : ZoneCause) (q : NoticeQueue) : NoticeQueue :=
  if old = new then q else offerTo s.link.settings.noticeMask ⟨.zoneChanged old new cause, s.time.seconds⟩ q

/-- A zone offset taken is written and told (R15). -/
theorem State.setZone_eq (s : State) (offset : Int) (cause : ZoneCause) :
    s.setZone offset cause =
      (s.setTime { s.time with zone := offset }).setNotices (s.tellZone s.time.zone offset cause s.notices) := by
  unfold State.setZone State.tellZone
  dsimp only
  split <;> rfl

/-- The held next change taken (R14, R15). -/
theorem State.takeNextChange_eq {s : State} {n : NextChange} (hn : s.time.nextChange = some n) :
    s.takeNextChange = (s.setTime { s.time with zone := n.offset, nextChange := none }).setNotices
      (s.tellZone s.time.zone n.offset .scheduled s.notices) := by
  unfold State.takeNextChange
  rw [hn]
  exact State.setZone_eq _ _ _

/-- The held next change is due when the clock is set and X is reached (R14). -/
theorem State.nextChangeDue_iff {s : State} {n : NextChange} (hn : s.time.nextChange = some n) :
    s.nextChangeDue = true ↔ s.time.clockSet = true ∧ n.at_ ≤ s.time.seconds := by
  unfold State.nextChangeDue State.now
  rw [hn]
  simp

/-- Without a next change none is due. -/
theorem State.nextChangeDue_none {s : State} (hn : s.time.nextChange = none) : s.nextChangeDue = false := by
  unfold State.nextChangeDue
  rw [hn]
  simp

/-! ## The owner of ZONE_REPORT -/

/-- The next change a report gives, its offset rounded (R13). -/
def ZoneFields.rounded (z : ZoneFields) : Option NextChange := z.next.map fun n => ⟨n.1, roundZone n.2⟩

/-- The clock with the report stored (R13). -/
def State.zoneStored (s : State) (z : ZoneFields) : State :=
  (s.setTime { s.time with zone := roundZone z.offset, nextChange := z.rounded }).setNotices
    (s.tellZone s.time.zone (roundZone z.offset) .report s.notices)

/-- The reply: Ok when the fields were in range, Clamped with the values stored otherwise (R13). -/
def ZoneFields.reply (z : ZoneFields) : ReplyPlan :=
  if roundZone z.offset = z.offset ∧ z.rounded = z.next.map (fun n => (⟨n.1, n.2⟩ : NextChange)) then .done .ok .code
  else .done .clamped (.zone (roundZone z.offset) z.rounded)

/-- ZONE_REPORT in its parts: the report stored, a change already due taken, the announcement when anything was altered (R13 to R15, R80;
log 46). -/
theorem State.zoneReport_eq (s : State) (z : ZoneFields) :
    s.zoneReport z =
      (if (s.time.zone != roundZone z.offset || s.time.nextChange != z.rounded) || (s.zoneStored z).nextChangeDue then
        (if (s.zoneStored z).nextChangeDue then (s.zoneStored z).takeNextChange else s.zoneStored z).instantiateAll true
      else if (s.zoneStored z).nextChangeDue then (s.zoneStored z).takeNextChange else s.zoneStored z, z.reply) := by
  have hstored : (s.setTime { s.time with nextChange := z.rounded }).setZone (roundZone z.offset) .report = s.zoneStored z :=
    State.setZone_eq _ _ _
  unfold State.zoneReport ZoneFields.reply
  rw [← hstored]
  exact (apply_ite (Prod.mk _) _ _ _).symm

/-- What the owner makes of the tables, and its reply, do not rest on the frame in service. -/
theorem State.zoneReport_inService (s : State) (v : Serving) (z : ZoneFields) :
    (s.inService v).zoneReport z = ((s.zoneReport z).1.inService v, (s.zoneReport z).2) := by
  have hstored : (s.inService v).zoneStored z = (s.zoneStored z).inService v := rfl
  rw [State.zoneReport_eq, State.zoneReport_eq, hstored, State.inService_time, State.inService_nextChangeDue]
  cases (s.zoneStored z).nextChangeDue <;> simp

/-- A next change that the report brings and that is already due is taken, and the change announced once (R14, R80; log 46). -/
theorem State.zoneReport_taken {s : State} {z : ZoneFields} {n : NextChange} (hn : z.rounded = some n) (hs : s.time.clockSet = true)
    (hx : n.at_ ≤ s.time.seconds) :
    (s.zoneReport z).1 = ((s.setTime { s.time with zone := n.offset, nextChange := none }).setNotices
      (s.tellZone (roundZone z.offset) n.offset .scheduled (s.tellZone s.time.zone (roundZone z.offset) .report s.notices))).instantiateAll
        true := by
  have hnext : (s.zoneStored z).time.nextChange = some n := hn
  have hdue : (s.zoneStored z).nextChangeDue = true := (State.nextChangeDue_iff hnext).mpr ⟨hs, hx⟩
  rw [State.zoneReport_eq]
  simp only [hdue, Bool.or_true, if_true]
  rw [State.takeNextChange_eq hnext]
  rfl

theorem State.zoneReport_of_not_due {s : State} {z : ZoneFields}
    (hn : ∀ n, z.rounded = some n → s.time.clockSet = false ∨ s.time.seconds < n.at_) : (s.zoneStored z).nextChangeDue = false := by
  cases hz : z.rounded with
  | none => exact State.nextChangeDue_none hz
  | some n =>
    have hiff := State.nextChangeDue_iff (s := s.zoneStored z) hz
    rw [← Bool.not_eq_true, hiff]
    rintro ⟨hs, hx⟩
    rcases hn n hz with h | h
    · exact Bool.false_ne_true (h.symm.trans hs)
    · exact Nat.not_le.mpr h hx

/-- The clock that the report leaves, when it takes no change: nothing altered is the clock as it stood. -/
theorem TimeBase.zone_eq_iff (t : TimeBase) (offset : Int) (next : Option NextChange) :
    { t with zone := offset, nextChange := next } = t ↔ (t.zone != offset || t.nextChange != next) = false := by
  obtain ⟨⟩ := t
  simp only [TimeBase.mk.injEq, true_and, and_true, Bool.or_eq_false_iff, bne_eq_false_iff_eq]
  exact ⟨fun h => ⟨h.1.symm, h.2.symm⟩, fun h => ⟨h.1.symm, h.2.symm⟩⟩

/-- A report that alters something and takes no change is announced (R80). -/
theorem State.zoneReport_altered {s : State} {z : ZoneFields}
    (hn : ∀ n, z.rounded = some n → s.time.clockSet = false ∨ s.time.seconds < n.at_)
    (hc : { s.time with zone := roundZone z.offset, nextChange := z.rounded } ≠ s.time) :
    (s.zoneReport z).1 = (s.zoneStored z).instantiateAll true := by
  rw [Ne, TimeBase.zone_eq_iff, Bool.not_eq_false] at hc
  rw [State.zoneReport_eq, State.zoneReport_of_not_due hn, hc]
  rfl

/-- A report of what stands changes nothing (R13). -/
theorem State.zoneReport_same {s : State} {z : ZoneFields}
    (hn : ∀ n, z.rounded = some n → s.time.clockSet = false ∨ s.time.seconds < n.at_)
    (hc : { s.time with zone := roundZone z.offset, nextChange := z.rounded } = s.time) : (s.zoneReport z).1 = s := by
  have hstored : s.zoneStored z = s := by
    have hz : s.time.zone = roundZone z.offset := congrArg TimeBase.zone hc.symm
    unfold State.zoneStored State.tellZone
    rw [hc, if_pos hz]
    rfl
  rw [TimeBase.zone_eq_iff] at hc
  rw [State.zoneReport_eq, State.zoneReport_of_not_due hn, hc, hstored]
  rfl

/-- Taking the held next change leaves catalogue and guide. -/
theorem State.takeNextChange_around (s : State) :
    s.takeNextChange.catalogue = s.catalogue ∧ s.takeNextChange.guide = s.guide := by
  cases hn : s.time.nextChange with
  | none =>
    unfold State.takeNextChange
    rw [hn]
    exact ⟨rfl, rfl⟩
  | some n =>
    rw [State.takeNextChange_eq hn]
    exact ⟨rfl, rfl⟩

/-- A ZoneReport leaves catalogue and guide. -/
theorem State.zoneReport_around (s : State) (z : ZoneFields) :
    (s.zoneReport z).1.catalogue = s.catalogue ∧ (s.zoneReport z).1.guide = s.guide := by
  have htaken : ∀ u : State, u.catalogue = s.catalogue ∧ u.guide = s.guide →
      (u.instantiateAll true).catalogue = s.catalogue ∧ (u.instantiateAll true).guide = s.guide := by
    intro u hu
    obtain ⟨_, hcat, hguide, _⟩ := u.instantiateAll_around true
    rwa [hcat, hguide]
  have hdue : ∀ d : Bool, (if d then (s.zoneStored z).takeNextChange else s.zoneStored z).catalogue = s.catalogue ∧
      (if d then (s.zoneStored z).takeNextChange else s.zoneStored z).guide = s.guide := by
    intro d
    cases d with
    | true => exact (s.zoneStored z).takeNextChange_around
    | false => exact ⟨rfl, rfl⟩
  rw [State.zoneReport_eq]
  dsimp only
  split
  · exact htaken _ (hdue _)
  · exact hdue _

/-- ZONE_REPORT answers what its owner makes of the state. -/
theorem exec_zoneReport_serves {tag : Byte} {body : List Byte} {z : ZoneFields} {s : State} (hp : parseZoneReport body = .ok z)
    (ht : s.takes ⟨tag, 0x11, body⟩) :
    ∃ t, exec (.zoneReport tag body) s = .next t ∧ t.core = (s.zoneReport z).1.core ∧ t.link.settings = s.link.settings ∧
      (∀ r d, z.reply = .done r d → t.answers ⟨tag, 0x11, body⟩ r d) ∧ ((s.zoneReport z).1 = s → t.planner = s.planner) := by
  obtain ⟨v, hv⟩ := s.taken_eq_inService ⟨tag, 0x11, body⟩
  have hw := zoneReport_wellFormed (tag := tag) hp
  have hown : (s.taken ⟨tag, 0x11, body⟩).zoneReport z = ((s.zoneReport z).1.inService v, (s.zoneReport z).2) := by
    rw [hv, State.zoneReport_inService]
  have hserve := request_of_takes (owner := fun u => u.zoneReport z) hw ht
  refine ⟨_, (exec_zoneReport hp s).trans hserve, ?core, ?settings, ?answers, ?planner⟩
  case core => rw [State.serve_core, hown, State.inService_core]
  case settings =>
    rw [State.serve_settings, State.link_of_outer (State.zoneReport_outer _ z), State.taken_settings]
  case answers =>
    intro r d hr
    obtain ⟨t, h1, h2, _⟩ := request_answers (owner := fun u => u.zoneReport z) (r := r) (d := d) hw ht
      (by rw [hown]; exact (congrArg (·.2) (State.zoneReport_eq s z)).trans hr)
    rw [Host.Outcome.next.inj (hserve.symm.trans h1)]
    exact h2
  case planner =>
    intro hsame
    rw [State.serve_planner (by rw [hown, hsame]; exact ht.2.1), hown, hsame]
    rfl

/-- The replies of R13. -/
theorem ZoneFields.reply_ok {z : ZoneFields} (ho : roundZone z.offset = z.offset) (hn : ∀ n, z.next = some n → roundZone n.2 = n.2) :
    z.reply = .done .ok .code := by
  refine if_pos ⟨ho, ?_⟩
  unfold ZoneFields.rounded
  cases hz : z.next with
  | none => rfl
  | some n => simp [hn n hz]

theorem ZoneFields.reply_clamped {z : ZoneFields} (h : roundZone z.offset ≠ z.offset ∨ ∃ n, z.next = some n ∧ roundZone n.2 ≠ n.2) :
    z.reply = .done .clamped (.zone (roundZone z.offset) z.rounded) := by
  refine if_neg ?_
  rintro ⟨ho, hn⟩
  obtain h | ⟨n, hz, hne⟩ := h
  · exact h ho
  · unfold ZoneFields.rounded at hn
    simp only [hz, Option.map_some, Option.some.injEq, NextChange.mk.injEq, true_and] at hn
    exact hne hn

/-! ## Local reckoning (R13, R78) -/

/-- Rounding to quarter hours, halves upward, and clamping (R13). -/
theorem roundZone_spec (o : Int) :
    -720 ≤ roundZone o ∧ roundZone o ≤ 840 ∧ roundZone o % 15 = 0 ∧ (o < -720 → roundZone o = -720) ∧ (840 < o → roundZone o = 840) ∧
      (-720 ≤ o → o ≤ 840 → roundZone o - 7 ≤ o ∧ o ≤ roundZone o + 7) := by
  unfold roundZone clampInt
  omega

theorem utcInstant_eq_some {x : Int} {u : Nat} : utcInstant x = some u ↔ u ≤ maxU32 ∧ (u : Int) = x := by
  unfold utcInstant
  split
  · simp only [Option.some.injEq]
    omega
  · simp only [reduceCtorEq, false_iff]
    omega

/-- Without a held change the offset in force gives the instant (R78). -/
theorem toUtc_none (zone day : Int) (minute u : Nat) :
    toUtc zone none day minute = some u ↔ u ≤ maxU32 ∧ (u : Int) = day * 86400 + (minute : Int) * 60 - 60 * zone :=
  utcInstant_eq_some

/-- With a held change: the offset in force before X, the next one from X on, X itself for a local time that the change skips (R78). -/
theorem toUtc_some (zone day : Int) (minute u : Nat) (n : NextChange) :
    toUtc zone (some n) day minute = some u ↔ u ≤ maxU32 ∧
      (u : Int) = if day * 86400 + (minute : Int) * 60 - 60 * zone < n.at_ then day * 86400 + (minute : Int) * 60 - 60 * zone
        else if (n.at_ : Int) ≤ day * 86400 + (minute : Int) * 60 - 60 * n.offset then
          day * 86400 + (minute : Int) * 60 - 60 * n.offset
        else n.at_ := by
  unfold toUtc
  dsimp only
  rw [← utcInstant_eq_some]
  split
  · rfl
  · split <;> rfl

/-! ## Retiming (R80; log 35) -/

/-- The record of a slot booking brought to a new window (R80). -/
def Booking.retimed (b : Booking) (start duration : Nat) : Booking :=
  { b with nominalStart := start, nominalStop := start + duration, replan := true }

/-- A booking of the link, Pending with its start ahead, takes the window its day and minute give, when that lies ahead and in range. -/
theorem State.retimeEntry_moves {s : State} {l : Link} {minute duration : Nat} {o : Occurrence} {b : Booking} {u : Nat}
    (hb : s.booking? o.handle = some b) (hp : b.state = .pending ∧ b.origin = .slot l.index ∧ s.now < b.nominalStart)
    (hu : toUtc s.time.zone s.time.nextChange o.day minute = some u)
    (hw : s.now < u ∧ u ≠ b.nominalStart ∧ u + duration ≤ maxU32) :
    s.retimeEntry l minute duration o =
      ((s.modBooking o.handle fun b => b.retimed u duration).bookingChanged o.handle).noteState o.handle := by
  have hh := State.booking_handle hb
  unfold State.retimeEntry
  rw [hb]
  dsimp only
  rw [if_pos hp, hu]
  dsimp only
  rw [if_pos hw, hh]
  rfl

/-- Every other booking of an entry stays as it is. -/
theorem State.retimeEntry_stays {s : State} {l : Link} {minute duration : Nat} {o : Occurrence} {b : Booking}
    (hb : s.booking? o.handle = some b)
    (h : b.state ≠ .pending ∨ b.origin ≠ .slot l.index ∨ b.nominalStart ≤ s.now ∨
      ∀ u, toUtc s.time.zone s.time.nextChange o.day minute = some u → u ≤ s.now ∨ u = b.nominalStart ∨ maxU32 < u + duration) :
    s.retimeEntry l minute duration o = s := by
  unfold State.retimeEntry
  rw [hb]
  dsimp only
  split
  · rename_i hp
    split
    · rfl
    · rename_i u hu
      refine if_neg fun hw => ?_
      obtain h | h | h | h := h
      · exact h hp.1
      · exact h hp.2.1
      · exact Nat.not_lt.mpr h hp.2.2
      · obtain h | h | h := h u hu
        · exact Nat.not_lt.mpr h hw.1
        · exact hw.2.1 h
        · exact Nat.not_le.mpr h hw.2.2
  · rfl

/-- A changed record that is noted: the record, the others, the trigger and the notice are all that it writes (R51, R85). -/
theorem State.noted_core {s : State} {h : Nat} {b : Booking} (hb : s.booking? h = some b) (f : Booking → Booking)
    (hf : ∀ b, b.handle = h → (f b).handle = h) :
    (((s.modBooking h f).bookingChanged h).noteState h).core =
      ((s.setBook (((s.modBooking h f).bookingChanged h).noteState h).book).setNotices (offerTo s.link.settings.noticeMask
        ⟨.bookingState h ⟨(f b).state, (f b).placement, (f b).verdict, .none⟩, s.time.seconds⟩ s.notices)).core := by
  have hc : ((s.modBooking h f).bookingChanged h).booking? h = some (f b) := by
    rw [State.booking_of_book (State.bookingChanged_book _ _)]
    exact State.modBooking_booking_eq hb hf
  have hn : ((s.modBooking h f).bookingChanged h).noteState h = ((s.modBooking h f).bookingChanged h).offer
      (.bookingState h ⟨(f b).state, (f b).placement, (f b).verdict, .none⟩) := by
    unfold State.noteState
    rw [hc]
    rfl
  rw [hn]
  unfold State.bookingChanged State.markChanged
  split <;> rfl

end Sys2Proof.Machine

open Sys2Proof Sys2Proof.Machine

/-- Settles O26. ZONE_REPORT is what its owner makes of the state (`exec_zoneReport_serves`), by whether the change it holds is due;
NEXT_CHANGE_TAKEN is `takeNextChange_eq`. -/
theorem zoneChangesAreTaken : Obligations.ZoneChangesAreTaken := by
  unfold Obligations.ZoneChangesAreTaken
  refine ⟨?report, ?change, roundZone_spec, ?utc, ?retiming⟩
  case report =>
    intro tag body z s hp ht
    obtain ⟨t, hexec, hcore, hset, hans, hplan⟩ := exec_zoneReport_serves hp ht
    have htime : t.time = (s.zoneReport z).1.time := congrArg (·.1) hcore
    refine ⟨t, hexec, ⟨?taken, ?kept, ?ok, ?clamped⟩, ?catalogue, ?guide, hset⟩
    case taken =>
      intro n hn hs hx
      have heq := State.zoneReport_taken hn hs hx
      have hz : t.time = { s.time with zone := n.offset, nextChange := none } := by
        rw [htime, heq, (State.instantiateAll_around _ _).1]
        rfl
      exact ⟨hz, by rw [hcore, heq, hz]; rfl⟩
    case kept =>
      intro hn
      by_cases hc : { s.time with zone := roundZone z.offset, nextChange := z.rounded } = s.time
      · have heq := State.zoneReport_same hn hc
        have hz : t.time = s.time := by rw [htime, heq]
        exact ⟨hz.trans hc.symm, fun h => absurd hz h, fun _ => ⟨by rw [hcore, heq], hplan heq⟩⟩
      · have heq := State.zoneReport_altered hn hc
        have hz : t.time = { s.time with zone := roundZone z.offset, nextChange := z.rounded } := by
          rw [htime, heq, (State.instantiateAll_around _ _).1]
          rfl
        exact ⟨hz, fun _ => by rw [hcore, heq, hz]; rfl, fun h => absurd (hz.symm.trans h) hc⟩
    case ok => exact fun ho hn => hans _ _ (ZoneFields.reply_ok ho hn)
    case clamped => exact fun h => hans _ _ (ZoneFields.reply_clamped h)
    case catalogue => exact (congrArg (·.2.1) hcore).trans (s.zoneReport_around z).1
    case guide => exact (congrArg (·.2.2.1) hcore).trans (s.zoneReport_around z).2
  case change =>
    intro n s hr hs hn hx
    have hdue : s.nextChangeDue = true := (State.nextChangeDue_iff hn).mpr ⟨hs, hx⟩
    obtain ⟨t, hexec, _, rfl⟩ := event_becomes (act := fun s => s.takeNextChange.instantiateAll true) hr hdue
    have heq := State.takeNextChange_eq hn
    obtain ⟨htime, hcat, hguide, hlink⟩ := State.instantiateAll_around s.takeNextChange true
    have hz : (s.takeNextChange.instantiateAll true).settle.time = { s.time with zone := n.offset, nextChange := none } := by
      rw [State.settle_time, htime, heq]
      rfl
    refine ⟨_, hexec, hz, ?core, ?catalogue, ?guide, ?settings⟩
    case core => rw [State.settle_core, hz, heq]; rfl
    case catalogue => rw [State.settle_catalogue, hcat, heq]; rfl
    case guide => rw [State.settle_guide, hguide, heq]; rfl
    case settings => rw [State.settle_settings, hlink, heq]; rfl
  case utc => exact fun zone day minute u n => ⟨toUtc_none zone day minute u, toUtc_some zone day minute u n⟩
  case retiming =>
    intro s l minute duration o b _ hb
    refine ⟨fun u hp ho hn hu hlt hne hr => ?_, fun h => State.retimeEntry_stays hb h⟩
    have hf : ∀ b : Booking, b.handle = o.handle → (b.retimed u duration).handle = o.handle := fun _ h => h
    have hcore := State.noted_core hb (fun b => b.retimed u duration) hf
    rw [State.retimeEntry_moves hb ⟨hp, ho, hn⟩ hu ⟨hlt, hne, hr⟩]
    refine ⟨?record, ?others, ?trigger, ?core⟩
    case record =>
      rw [State.booking_of_book (State.noteState_book _ _), State.booking_of_book (State.bookingChanged_book _ _)]
      exact State.modBooking_booking_eq hb hf
    case others =>
      intro k hk
      rw [State.booking_of_book (State.noteState_book _ _), State.booking_of_book (State.bookingChanged_book _ _)]
      exact State.modBooking_booking_ne (Ne.symm hk) fun _ => rfl
    case trigger => exact State.noteState_asked (State.bookingChanged_asked _ _) _
    case core => rw [hcore, ← hp]; rfl

end

section
/-! The seconds count: what a tick, the end of a second and the mark of an elapsed second write (R2 to R4, R129, R134, R141, R160, R198). -/

namespace Sys2Proof.Machine

/-! ## The length of a second (R2 to R4) -/

/-- A second begun with the trim in range lasts 32768 ticks less its terms. -/
theorem TimeBase.beginSecond_ticksLeft (t : TimeBase) (h1 : -255 ≤ t.trim) (h2 : t.trim ≤ 255) :
    (t.beginSecond.ticksLeft : Int) = 32768 - (trimTerm t.seconds t.trim + slewTerm t.slew) := by
  have htrim : -255 ≤ trimTerm t.seconds t.trim ∧ trimTerm t.seconds t.trim ≤ 255 := by
    unfold trimTerm
    split <;> omega
  have hslew : -64 ≤ slewTerm t.slew ∧ slewTerm t.slew ≤ 64 := by
    unfold slewTerm
    repeat' split
    all_goals omega
  unfold TimeBase.ticksLeft TimeBase.beginSecond
  dsimp only
  omega

/-! ## The mark (R129, R134, R135, R141, R160) -/

/-- A record once a second is marked: a Finished one stands; of another, its gap seconds, its candidate's hold and, while it is Recording, its
failover count. -/
def Booking.marked (runHold : Nat) (b : Booking) : Booking :=
  if b.state = .finished then b else { b with
    gapSeconds := if b.items.inGap = true then min (b.gapSeconds + 1) 65535 else b.gapSeconds
    items := { b.items with
      candidate := b.items.candidate.map fun k => { k with held := k.held.mark runHold }
      failover := if b.items.inGap = true ∧ b.state = .recording then b.items.failover - 1 else b.items.failover } }

theorem Booking.mark_eq_marked (runHold : Nat) (b : Booking) : (if b.unfinished then b.mark runHold else b) = b.marked runHold := by
  unfold Booking.marked Booking.unfinished
  by_cases hs : b.state = .finished
  · simp [hs]
  · unfold Booking.mark
    cases hg : b.items.inGap with
    | true => by_cases hr : b.state = .recording <;> simp [hs, hr, hg]
    | false => simp [hs]

/-- The end of a second writes the clock, then marks the second in every block. -/
theorem State.endSecond_eq (s : State) :
    s.endSecond = ((((s.setTime s.time.endSecond).setBook
        { s.book with records := s.book.records.map (Booking.marked s.settings.runHold) }).setOrders
        { s.orders with orders := s.orders.orders.map fun o => { o with elapsed := countUp maxTimeout o.elapsed } }).setMonitor
        { s.monitor with a := s.monitor.a.mark s.settings.lossLength, b := s.monitor.b.mark s.settings.lossLength }).setWake
        (s.wake.mark s.settings.wakeTimeout) := by
  have hbook : (s.book.records.map fun b => if b.unfinished then b.mark s.settings.runHold else b) =
      s.book.records.map (Booking.marked s.settings.runHold) :=
    List.map_congr_left fun b _ => Booking.mark_eq_marked _ b
  rw [← hbook]
  rfl

/-- The end of a second reads of the link the settings alone. -/
theorem State.endSecond_core_congr {s u : State} (hc : u.core = s.core) (hs : u.settings = s.settings) :
    u.endSecond.core = s.endSecond.core := by
  simp only [State.core, Prod.mk.injEq] at hc
  obtain ⟨htime, hcat, hguide, hlinks, hbook, horders, hmonitor, hwake, hstorage, hnotices⟩ := hc
  rw [State.endSecond_eq, State.endSecond_eq, hs]
  unfold State.core State.setWake State.setMonitor State.setOrders State.setBook State.setTime
  simp only [htime, hcat, hguide, hlinks, hbook, horders, hmonitor, hwake, hstorage, hnotices]

/-! ## The gap timer (R198) -/

/-- The gap timer after some ticks, which count only while RTS is asserted. -/
theorem State.countGap_eq (s : State) (ticks : Nat) :
    s.countGap ticks = s.setLink { s.link with
      gapTimer := if s.lines.rts = true then s.link.gapTimer.map fun n => min (n + ticks) 328 else s.link.gapTimer } := by
  unfold State.countGap
  split <;> rfl

theorem State.countGap_keeps (s : State) (ticks : Nat) :
    (s.countGap ticks).core = s.core ∧ (s.countGap ticks).planner = s.planner ∧ (s.countGap ticks).settings = s.settings ∧
      (s.countGap ticks).lines = s.lines ∧ (s.countGap ticks).pending = s.pending := by
  rw [State.countGap_eq]
  exact ⟨rfl, rfl, rfl, rfl, rfl⟩

/-- The end of a command drains the FIFO: link and RTS are those of any state with the same link and RTS, drained. -/
theorem State.settle_drains {s u : State} (hl : s.link = u.link) (hr : s.lines.rts = u.lines.rts) :
    s.settle.link = u.drain.link ∧ s.settle.lines.rts = u.drain.lines.rts := by
  have h := State.drainN_congr u.link.fifo.length s.takeTriggers u (by rw [State.takeTriggers_link, hl])
    (by rw [State.takeTriggers_lines, hr])
  have hs : s.settle.link = (s.takeTriggers.drainN u.link.fifo.length).link ∧
      s.settle.lines.rts = (s.takeTriggers.drainN u.link.fifo.length).lines.rts := by
    unfold State.settle State.drain
    rw [State.takeTriggers_link, hl]
    exact ⟨rfl, rfl⟩
  exact ⟨hs.1.trans h.1, hs.2.trans h.2⟩

theorem State.endSecond_planner (s : State) : s.endSecond.planner = s.planner := rfl

/-! ## The serial lines before a tick (log 28) -/

/-- A run of line events leaves everything but the bytes under way and CTS. -/
theorem State.lineEvents_keep (l : List LineEvent) (s : State) :
    (l.foldl State.lineEvent s).core = s.core ∧ (l.foldl State.lineEvent s).planner = s.planner ∧
      (l.foldl State.lineEvent s).pending = s.pending ∧ (l.foldl State.lineEvent s).link.config = s.link.config ∧
      (l.foldl State.lineEvent s).lines.resetn = s.lines.resetn := by
  induction l generalizing s with
  | nil => exact ⟨rfl, rfl, rfl, rfl, rfl⟩
  | cons e l ih =>
    obtain ⟨hcore, hplanner, hpending, hconfig, hresetn⟩ := ih (s.lineEvent e)
    obtain ⟨ecore, eplanner, epending, econfig, _, _, _, elines⟩ := s.lineEvent_keeps e
    have eresetn : (s.lineEvent e).lines.resetn = s.lines.resetn := (congrArg Lines.resetn elines :)
    exact ⟨hcore.trans ecore, hplanner.trans eplanner, hpending.trans epending, hconfig.trans econfig, hresetn.trans eresetn⟩

theorem State.takeLine_keeps (s : State) :
    s.takeLine.core = s.core ∧ s.takeLine.planner = s.planner ∧ s.takeLine.pending = s.pending ∧
      s.takeLine.link.config = s.link.config ∧ s.takeLine.lines.resetn = s.lines.resetn := by
  unfold State.takeLine
  split
  · exact ⟨rfl, rfl, rfl, rfl, rfl⟩
  · exact State.lineEvents_keep _ _

/-! ## One tick (R2, R198) -/

/-- A tick at the last count ends the second; every other tick holds or advances the count (R2). -/
theorem State.crystal_core (s : State) :
    (s.time.sub = 32767 ∧ s.time.hold = 0 → s.crystal.core = s.endSecond.core) ∧
      (¬ (s.time.sub = 32767 ∧ s.time.hold = 0) → s.crystal.core = (s.setTime s.time.tick).core) := by
  obtain ⟨hcore, _, hset, _, _⟩ := s.countGap_keeps 1
  have htime : (s.countGap 1).time = s.time := congrArg (·.1) hcore
  unfold State.crystal
  dsimp only
  rw [htime]
  refine ⟨fun h => ?_, fun h => ?_⟩
  · rw [if_pos h]
    exact State.endSecond_core_congr hcore hset
  · rw [if_neg h, State.countGap_eq]
    rfl

/-- Beside clock and counts a tick writes the gap timer, and gives no trigger. -/
theorem State.crystal_around (s : State) :
    s.crystal.planner = s.planner ∧ s.crystal.link = (s.countGap 1).link ∧ s.crystal.lines = s.lines ∧ s.crystal.pending = s.pending := by
  obtain ⟨_, hplanner, _, hlines, hpending⟩ := s.countGap_keeps 1
  unfold State.crystal
  dsimp only
  split
  · have houter := (s.countGap 1).endSecond_outer
    exact ⟨(s.countGap 1).endSecond_planner.trans hplanner, State.link_of_outer houter, (State.lines_of_outer houter).trans hlines,
      (State.pending_of_outer houter).trans hpending⟩
  · exact ⟨hplanner, rfl, hlines, hpending⟩

/-- Without a trigger the end of a command leaves the planner. -/
theorem State.settle_planner_idle {s : State} (h : s.planner.triggered = false) : s.settle.planner = s.planner := by
  rw [State.settle_planner, State.takeTriggers_idle _ h]

end Sys2Proof.Machine

open Sys2Proof Sys2Proof.Machine

/-- Settles O25: SECOND_END and CRYSTAL_TICK write the clock and mark the second (`State.endSecond_eq`), and of the link only the gap timer
before the FIFO is drained (`State.settle_drains`). -/
theorem secondsAreCounted : Obligations.SecondsAreCounted := by
  unfold Obligations.SecondsAreCounted
  refine ⟨TimeBase.beginSecond_ticksLeft, fun s hr => ⟨?second, ?tick⟩⟩
  case second =>
    obtain ⟨t, hexec, _, rfl⟩ := event_becomes (act := fun s => (s.countGap s.time.ticksLeft).endSecond) (due := true) hr rfl
    obtain ⟨hcore, hplanner, hset, hlines, _⟩ := s.countGap_keeps s.time.ticksLeft
    have houter := (s.countGap s.time.ticksLeft).endSecond_outer
    obtain ⟨hlink, hrts⟩ := State.settle_drains (s := (s.countGap s.time.ticksLeft).endSecond)
      (u := s.countGap s.time.ticksLeft) (State.link_of_outer houter) (congrArg Lines.rts (State.lines_of_outer houter))
    rw [congrArg State.drain (s.countGap_eq _)] at hlink hrts
    refine ⟨_, hexec, ?core, ?planner, hlink, hrts⟩
    case core => rw [State.settle_core, State.endSecond_core_congr hcore hset, State.endSecond_eq]; rfl
    case planner =>
      intro hidle
      have heq := (s.countGap s.time.ticksLeft).endSecond_planner.trans hplanner
      rw [State.settle_planner_idle (by rw [heq]; exact hidle), heq]
  case tick =>
    obtain ⟨kcore, kplanner, kpending, kconfig, kresetn⟩ := s.takeLine_keeps
    have ktime : s.takeLine.time = s.time := congrArg (·.1) kcore
    have kset : s.takeLine.settings = s.settings := congrArg (·.1) kconfig
    obtain ⟨t, hexec, _, rfl⟩ := event_becomes (act := State.crystal) (due := true) (kresetn.trans hr) rfl
    obtain ⟨cplanner, clink, clines, cpending⟩ := s.takeLine.crystal_around
    obtain ⟨hlast, hinside⟩ := s.takeLine.crystal_core
    obtain ⟨_, _, _, glines, _⟩ := s.takeLine.countGap_keeps 1
    obtain ⟨hlink, hrts⟩ := State.settle_drains (s := s.takeLine.crystal) (u := s.takeLine.countGap 1) clink
      (by rw [clines, glines])
    have hset : ∀ x, (s.takeLine.setTime x).core = (s.setTime x).core := by
      simp only [State.core, Prod.mk.injEq] at kcore ⊢
      exact fun x => ⟨rfl, kcore.2⟩
    rw [congrArg State.drain (s.takeLine.countGap_eq 1)] at hlink hrts
    rw [ktime] at hlast hinside
    refine ⟨_, hexec, ?planner, hlink, hrts, ?inputs, ?pending, ?hold, ?sub, ?last⟩
    case planner =>
      intro hidle
      have heq := cplanner.trans kplanner
      rw [State.settle_planner_idle (by rw [heq]; exact hidle), heq]
    case inputs => rw [State.settle_inputs, clines]
    case pending => rw [State.settle_pending, cpending, kpending]
    case hold =>
      intro hh
      rw [State.settle_core, hinside fun h => Nat.ne_of_gt hh h.2, hset, TimeBase.tick, if_pos hh]
    case sub =>
      intro hh hs
      rw [State.settle_core, hinside fun h => hs h.1, hset, TimeBase.tick, if_neg (by omega)]
    case last =>
      intro hh hs
      rw [State.settle_core, hlast ⟨hs, hh⟩, State.endSecond_core_congr kcore kset, State.endSecond_eq]
      rfl

end

section
/-! A TimeReport that steps the clock. The booking a step would finish can be switched, by a Starved link retried at the finish of another
booking, to an airing that ends after the new S (R47, R74, R76): it stays Pending. `outpaced` is a state in which this happens. -/

namespace Sys2Proof.Machine

/-- The airing that ends after the step: it starts before the booking of the link and runs past it. -/
def outpaced.airing : Event := ⟨0, 20, 5000, 10000, some 7, some 9, false⟩

/-- The Starved link, on the tag of the airing, with nothing recorded yet. -/
def outpaced.starved : Link := ⟨0, 8, 120, 300, false, true, .series 7 none .newOnly []⟩

/-- A Pending booking whose padded end the step passes; its finish has the Starved link retried. -/
def outpaced.first : Booking := freshBooking 1 .time 0 2000 3000 none 8 120 300 false

/-- The link's Pending booking on a later airing of the same episode, its padded end passed as well. -/
def outpaced.second : Booking := freshBooking 2 (.series 0) 0 6000 7000 (some ⟨0, 10, 6000, 1000, some 7, some 9, false⟩) 8 120 300 false

/-- The clock stands at 1000. -/
def outpaced : State :=
  { State.reset with
    time := { TimeBase.reset with seconds := 1000, clockSet := true, lastDate := some 0 }
    guide := [outpaced.airing]
    links := [outpaced.starved]
    book := ⟨[outpaced.first, outpaced.second], 3⟩ }

theorem outpaced_tables : outpaced.tablesHold := by
  unfold State.tablesHold BookingTable.ordered OrderUnit.single NoticeQueue.bounded
  decide

/-- The step to 8000 finishes the first booking, and the second is left Pending on the airing that goes on until 15000. -/
theorem outpaced_stepClock : ((outpaced.stepClock 8000).booking? 2).map (fun b => (b.state, b.nominalStart, b.nominalStop)) =
    some (.pending, 5000, 15000) := by decide +kernel

/-- A TIME_REPORT with the clock unset, or with an offset of two seconds or more, leaves the tables as the step of the clock makes them
(R5, R6). -/
theorem exec_timeReport_steps {tag : Byte} {body : List Byte} {b : Nat} {s : State} (hp : parseTimeReport body = .ok b)
    (ht : s.takes ⟨tag, 0x10, body⟩) (hs : s.time.steps (s.time.offsetFrom b) = true) :
    ∃ t, exec (.timeReport tag body) s = .next t ∧ t.core = (s.stepClock b).core := by
  obtain ⟨v, hv⟩ := s.taken_eq_inService ⟨tag, 0x10, body⟩
  have hown : ((s.taken ⟨tag, 0x10, body⟩).timeReport b).1 = (s.stepClock b).inService v := by
    unfold State.timeReport
    rw [hv, State.inService_time, if_pos hs, State.stepClock_inService]
  refine ⟨_, (exec_timeReport hp s).trans (request_of_takes (timeReport_wellFormed hp) ht), ?_⟩
  rw [State.serve_core, hown, State.inService_core]

end Sys2Proof.Machine

open Sys2Proof Sys2Proof.Machine

/-- Refutes O22: in `outpaced` a report of 8000 passes the padded end of the second booking, and leaves it Pending. The finish of the first
booking has the Starved link retried, which switches the second to an earlier airing that ends at 15000, before its own turn comes. -/
theorem not_timeReportSteps : ¬ Obligations.TimeReportSteps := by
  unfold Obligations.TimeReportSteps
  intro h
  have hp : parseTimeReport (be32 8000) = .ok 8000 := rfl
  have ht : outpaced.takes ⟨9, 0x10, be32 8000⟩ := ⟨rfl, rfl, Or.inl rfl⟩
  obtain ⟨t, hexec, _, _, _, _, _, _, _, _, _, _, _, _, _, _, _, _, _, _, hbookings, _⟩ := h 9 _ 8000 outpaced hp ht (Or.inr (by decide))
  obtain ⟨u, hexec', hcore⟩ := exec_timeReport_steps hp ht (by decide)
  obtain rfl : t = u := Host.Outcome.next.inj (hexec.symm.trans hexec')
  obtain ⟨⟨x, hx, hfinished, _⟩, _⟩ := (hbookings outpaced_tables outpaced.second rfl).1 rfl (by decide)
  have hpending := outpaced_stepClock
  rw [← State.booking_of_book (congrArg (·.2.2.2.2.1) hcore), show t.booking? 2 = some x from hx] at hpending
  have hstate : x.state = .pending := congrArg (fun o => o.1) (Option.some.inj hpending)
  rw [hfinished] at hstate
  cases hstate

end

section
/-! The recording reports: what reading one comes to, and what serving it leaves (R122). -/

namespace Sys2Proof.Machine

/-! ## A report read (R122, R215) -/

/-- A report that is read has a body of four bytes (R215). -/
theorem length_of_parseReport {body : List Byte} {h : Nat} (hp : parseReport body = .ok h) : body.length = 4 := by
  unfold parseReport at hp
  split at hp
  · rfl
  · cases hp

theorem bodyFits_of_parseReport {body : List Byte} {h : Nat} (hp : parseReport body = .ok h) : bodyFits body = true := by
  simp [bodyFits, Config.maxBody, length_of_parseReport hp]

/-- A report on a record is what its owner makes of the record (R122). -/
theorem reportOwner_of_booking {body : List Byte} {b : Booking} {u : State} (owner : Booking → Owner)
    (hp : parseReport body = .ok b.handle) (h0 : b.handle ≠ 0) (hb : u.booking? b.handle = some b) :
    reportOwner body owner u = owner b u := by
  unfold reportOwner parsed
  rw [hp]
  dsimp only
  rw [if_neg h0, hb]

/-- A report row on a record answers the state served by the owner. -/
theorem request_report {row : Instr} {tag : Byte} {body : List Byte} {b : Booking} {s : State} (owner : Booking → Owner)
    (hw : row.wellFormed = true) (ht : s.takes ⟨tag, 0x49, body⟩) (hp : parseReport body = .ok b.handle) (h0 : b.handle ≠ 0)
    (hb : s.booking? b.handle = some b) :
    request row ⟨tag, 0x49, body⟩ (reportOwner body owner) s =
      .next ((s.taken ⟨tag, 0x49, body⟩).serve ⟨tag, 0x49, body⟩ (owner b)) := by
  rw [request_of_takes hw ht]
  unfold State.serve
  rw [reportOwner_of_booking owner hp h0 ((s.taken_booking _ _).trans hb)]

/-! ## A frame taken -/

@[simp] theorem State.taken_orderOf (s : State) (f : Frame) (h : Nat) : (s.taken f).orderOf h = s.orderOf h :=
  State.orderOf_of_orders (s.taken_orders f) h

@[simp] theorem State.taken_holdsDelivered (s : State) (f : Frame) (h : Nat) (kind : OrderKind) :
    (s.taken f).holdsDelivered h kind = s.holdsDelivered h kind := by
  simp [State.holdsDelivered]

theorem State.taken_tables {s : State} (hs : s.tablesHold) (f : Frame) : (s.taken f).tablesHold := by
  simpa [State.tablesHold] using hs

theorem State.taken_idle {s : State} {f : Frame} (ht : s.takes f) : (s.taken f).planner.triggered = false := by
  rw [State.taken_planner]
  exact ht.2.1

/-! ## What a served report leaves -/

theorem State.serve_booking (s : State) (f : Frame) (owner : Owner) (h : Nat) :
    (s.serve f owner).booking? h = (owner s).1.booking? h :=
  State.booking_of_book (s.serve_book f owner) h

theorem State.serve_orderOf (s : State) (f : Frame) (owner : Owner) (h : Nat) :
    (s.serve f owner).orderOf h = (owner s).1.orderOf h :=
  State.orderOf_of_orders (s.serve_orders f owner) h

theorem State.serve_tuner (s : State) (f : Frame) (owner : Owner) (x : TunerId) :
    (s.serve f owner).tuner x = (owner s).1.tuner x := by
  unfold State.tuner
  rw [s.serve_monitor f owner]

/-- What surrounds the tables is part of the shell. -/
theorem State.becomes.surrounds {t u s : State} (h : t.becomes u) (hu : u.shell = s.shell) : t.surrounds s := by
  obtain ⟨hcore, hconfig, hinputs, hpending, hlines⟩ := h
  simp only [State.shell, Prod.mk.injEq] at hu
  obtain ⟨htime, hcat, hguide, hlink, hlev, hpend⟩ := hu
  refine ⟨(congrArg (·.1) hcore).trans htime, (congrArg (·.2.1) hcore).trans hcat, (congrArg (·.2.2.1) hcore).trans hguide, ?_, ?_,
    hpending.trans hpend, hlines⟩
  · rw [hconfig, hlink]
  · rw [hinputs, hlev]

theorem State.taken_config (s : State) (f : Frame) : (s.taken f).link.config = s.link.config := by
  unfold State.taken
  split <;> rfl

theorem State.surrounds.of_taken {t s : State} {f : Frame} (h : t.surrounds (s.taken f)) : t.surrounds s := by
  obtain ⟨htime, hcat, hguide, hconfig, hinputs, hpending, hlines⟩ := h
  exact ⟨htime.trans (s.taken_time f), hcat.trans (s.taken_catalogue f), hguide.trans (s.taken_guide f),
    hconfig.trans (s.taken_config f), hinputs.trans (s.taken_inputs f), hpending.trans (s.taken_pending f), hlines⟩

/-- A request whose owner leaves the shell leaves what surrounds the tables. -/
theorem State.serve_surrounds {s : State} {f : Frame} {owner : Owner} (ho : ∀ u, (owner u).1.shell = u.shell) :
    ((s.taken f).serve f owner).surrounds s :=
  ((State.serve_becomes (s.taken f) f owner).surrounds (ho _)).of_taken

/-- A request that changes nothing is answered at once (R204). -/
theorem State.serve_still {s : State} {f : Frame} {owner : Owner} {r : Result} {d : ReplyData} (ht : s.takes f)
    (ho : owner (s.taken f) = (s.taken f, .done r d)) :
    ((s.taken f).serve f owner).unchanged s ∧ ((s.taken f).serve f owner).replies f r d := by
  have hidle : (owner (s.taken f)).1.planner.triggered = false := by rw [ho]; exact State.taken_idle ht
  have hbecomes := State.serve_becomes (s.taken f) f owner
  have hplanner := State.serve_planner (f := f) hidle
  have hsends := State.serve_sends (f := f) hidle
  rw [ho] at hbecomes hplanner hsends
  exact ⟨⟨State.taken_becomes hbecomes, hplanner.trans (s.taken_planner f)⟩, hsends⟩

/-- A request that asks for a pass waits for it with its complete reply (R87). -/
theorem State.serve_awaits {u : State} {f : Frame} {owner : Owner} {r : Result} {d : ReplyData} (ho : (owner u).2 = .done r d)
    (ha : (owner u).1.asked) : (u.serve f owner).awaits (.done r d) := by
  obtain ⟨hphase, hcomes⟩ := State.serve_holds (f := f) ha (by rw [ho]; rfl)
  exact ⟨⟨_, hphase.trans (by rw [ho])⟩, hcomes⟩

/-- A finish reads of the state before it the seconds count alone, and of the one after it the tables and the settings. -/
theorem State.finishedAs.congr {t u s r : State} {b : Booking} {v : Verdict} {unconfirmed : Bool} (h : u.finishedAs s b v unconfirmed)
    (hcore : t.core = u.core) (hset : t.link.settings = u.link.settings) (hp : t.passComes) (ht : s.time = r.time) :
    t.finishedAs r b v unconfirmed := by
  simp only [State.core, Prod.mk.injEq] at hcore
  obtain ⟨_, _, _, _, hbook, horders, _, _, _, hnotices⟩ := hcore
  obtain ⟨hrec, hnone, _, htells⟩ := h
  exact ⟨by rw [State.booking_of_book hbook, hrec, ht], by rw [State.orderOf_of_orders horders, hnone], hp, htells.keep hnotices hset⟩

/-- The reply after a finish gives the outcome (R122). -/
theorem State.reportReply_of_finish {u : State} {b : Booking} (hu : u.tablesHold) (hb : u.booking? b.handle = some b) (v : Verdict)
    (unconfirmed : Bool) (r : Result) :
    (u.finish b.handle v unconfirmed).reportReply r b.handle =
      (u.finish b.handle v unconfirmed, .done r (.report .finished (some v))) := by
  unfold State.reportReply
  rw [(State.finish_done hu hb v unconfirmed).2.1]
  rfl

/-- A report that finishes its booking: the record, the order, the notice, and the reply that waits for the pass (R47, R87, R122). -/
theorem State.serve_finishes {s u : State} {f : Frame} {owner : Owner} {b : Booking} {v : Verdict}
    (ho : owner (s.taken f) = (u.finish b.handle v false).reportReply .ok b.handle) (hu : u.tablesHold)
    (hb : u.booking? b.handle = some b) (htime : u.time = s.time) :
    ((s.taken f).serve f owner).finishedAs s b v false ∧
      ((s.taken f).serve f owner).awaits (.done .ok (.report .finished (some v))) := by
  rw [State.reportReply_of_finish hu hb] at ho
  have hwaits := State.serve_awaits (f := f) (owner := owner) (congrArg (·.2) ho) (by rw [ho]; exact State.finish_asks hb v false)
  refine ⟨(State.finish_finishes hu hb v false).congr ?_ ?_ hwaits.2 htime, hwaits⟩
  · rw [State.serve_core, ho, State.settle_core]
  · rw [State.serve_settings, ho, State.settle_settings]

/-! ## The owners of ENDED, REFUSED and FAULT_REPORT (R124 to R126) -/

/-- The record once its actual end is set (R124, R126). -/
def Booking.endedAt (b : Booking) (now : Nat) : Booking := { b with actualStop := some now }

theorem State.setActualStop_booking {u : State} {b : Booking} (hb : u.booking? b.handle = some b) :
    (u.setActualStop b.handle).booking? b.handle = some (b.endedAt u.now) :=
  State.modBooking_booking_eq hb fun _ h => h

/-- A finish by R48 has the outcome of the record found. -/
theorem State.finishByOutcome_eq {u : State} {h : Nat} {b : Booking} (hb : u.booking? h = some b) (r : Reason) (unconfirmed : Bool) :
    u.finishByOutcome h r unconfirmed = u.finish h (b.outcome r) unconfirmed := by
  unfold State.finishByOutcome
  rw [hb]

/-- A report that sets the actual end and finishes by an outcome of the record so changed (R124, R126). -/
theorem State.serve_finishes_ended {s : State} {f : Frame} {owner : Owner} {b : Booking} {v : Verdict} (hs : s.tablesHold)
    (hb : s.booking? b.handle = some b)
    (ho : owner (s.taken f) = (((s.taken f).setActualStop b.handle).finish b.handle v false).reportReply .ok b.handle) :
    ((s.taken f).serve f owner).finishedAs s (b.endedAt s.now) v false ∧
      ((s.taken f).serve f owner).awaits (.done .ok (.report .finished (some v))) := by
  have hb' := (s.taken_booking f b.handle).trans hb
  have hrec := State.setActualStop_booking hb'
  rw [State.taken_now] at hrec
  exact State.serve_finishes (b := b.endedAt s.now) ho (State.setActualStop_tables (State.taken_tables hs f) _) hrec (s.taken_time f)

/-- Finished Failed (NoStart) or Cancelled (R123, R125). -/
theorem Booking.givenUp_iff {b : Booking} {v : Verdict} (hv : b.verdict = some v) :
    b.givenUp = true ↔ v.kind = .cancelled ∨ v = ⟨.failed, .noStart⟩ := by
  obtain ⟨kind, reason⟩ := v
  simp [Booking.givenUp, hv]

theorem Booking.givenUp_of_none {b : Booking} (hv : b.verdict = none) : b.givenUp = false := by
  simp [Booking.givenUp, hv]

theorem Booking.wasBegun_iff (b : Booking) : b.wasBegun = true ↔ b.state = .finished ∧ b.actualStart ≠ none := by
  simp [Booking.wasBegun, Option.isSome_iff_ne_none]

theorem State.holdsDelivered_iff (s : State) (h : Nat) (kind : OrderKind) :
    s.holdsDelivered h kind = true ↔ ∃ o, s.orderOf h = some o ∧ o.kind = kind ∧ o.delivered = true := by
  unfold State.holdsDelivered
  cases s.orderOf h <;> simp

theorem State.holdsDelivered_eq_false {s : State} {h : Nat} {kind : OrderKind}
    (hno : ∀ o, s.orderOf h = some o → o.kind ≠ kind ∨ o.delivered = false) : s.holdsDelivered h kind = false := by
  rw [← Bool.not_eq_true, State.holdsDelivered_iff]
  rintro ⟨o, ho, hk, hd⟩
  exact (hno o ho).elim (fun hne => hne hk) fun hf => Bool.false_ne_true (hf.symm.trans hd)

/-- Seconds were recorded when the report comes after the start and the gaps (R47, R126). -/
theorem Booking.recordedSeconds_endedAt {b : Booking} {a : Nat} (ha : b.actualStart = some a) (now : Nat) :
    0 < (b.endedAt now).recordedSeconds ↔ a + b.gapSeconds < now := by
  unfold Booking.recordedSeconds Booking.endedAt
  simp only [ha]
  omega

/-- A Fault report in Recording (R126). -/
theorem State.faultInRecording_eq {u : State} {b : Booking} {a : Nat} (hb : u.booking? b.handle = some b) (ha : b.actualStart = some a) :
    u.faultInRecording b.handle = (u.setActualStop b.handle).finish b.handle
      (if a + b.gapSeconds < u.now then ⟨.partially, .fault⟩ else ⟨.failed, .fault⟩) false := by
  unfold State.faultInRecording
  simp only [State.setActualStop_booking hb, Booking.recordedSeconds_endedAt ha]

/-! What each owner makes of the record, state by state: a finish, or a report refused. -/

section
variable {u : State} {b : Booking} {now : Nat}

theorem State.ended_stopping (hb : u.booking? b.handle = some b) (hn : u.now = now) (hst : b.state = .stopping) :
    u.ended b = ((u.setActualStop b.handle).finish b.handle ((b.endedAt now).outcome .scheduled) false).reportReply .ok b.handle := by
  simp [State.ended, hst, State.finishByOutcome_eq (State.setActualStop_booking hb), hn]

theorem State.ended_recording (hb : u.booking? b.handle = some b) (hn : u.now = now) (hst : b.state = .recording) :
    u.ended b = ((u.setActualStop b.handle).finish b.handle ((b.endedAt now).outcome .hostStop) false).reportReply .ok b.handle := by
  simp [State.ended, hst, State.finishByOutcome_eq (State.setActualStop_booking hb), hn]

/-- Ended and Fault come too late for a recording that has finished (R124, R126). -/
theorem State.ended_fault_late (hst : b.state = .finished) (ha : b.actualStart ≠ none) :
    u.ended b = (u, .done .tooLate (.report .finished b.verdict)) ∧
      u.faultReported b = (u, .done .tooLate (.report .finished b.verdict)) := by
  have hbegun : b.wasBegun = true := (Booking.wasBegun_iff b).mpr ⟨hst, ha⟩
  simp [State.ended, State.faultReported, State.reportRefused, hbegun, hst]

/-- Ended and Fault do not fit a booking that is not Recording or Stopping and that no Begun has reached (R124, R126). -/
theorem State.ended_fault_mismatch
    (h : b.state = .pending ∨ b.state = .armed ∨ b.state = .due ∨ (b.state = .finished ∧ b.actualStart = none)) :
    u.ended b = (u, .done .stateMismatch (.report b.state b.verdict)) ∧
      u.faultReported b = (u, .done .stateMismatch (.report b.state b.verdict)) := by
  have hbegun : b.wasBegun ≠ true := by
    rw [Ne, Booking.wasBegun_iff]
    rintro ⟨hst, ha⟩
    simp [hst, ha] at h
  have hrecording : b.state ≠ .recording := fun hst => by simp [hst] at h
  have hstopping : b.state ≠ .stopping := fun hst => by simp [hst] at h
  simp [State.ended, State.faultReported, State.reportRefused, hbegun, hrecording, hstopping]

theorem State.refusedByHost_due (hst : b.state = .due) (hd : u.holdsDelivered b.handle .start = true) :
    u.refusedByHost b = (u.finish b.handle ⟨.failed, .refused⟩ false).reportReply .ok b.handle := by
  simp [State.refusedByHost, hst, hd]

theorem State.refusedByHost_late (hst : b.state = .finished) (hg : b.givenUp = true) :
    u.refusedByHost b = (u, .done .tooLate (.report .finished b.verdict)) := by
  simp [State.refusedByHost, State.reportRefused, hst, hg]

theorem State.refusedByHost_mismatch (hd : b.state = .due → u.holdsDelivered b.handle .start = false)
    (hg : b.state = .finished → b.givenUp = false) :
    u.refusedByHost b = (u, .done .stateMismatch (.report b.state b.verdict)) := by
  have h1 : ¬ (b.state = .due ∧ u.holdsDelivered b.handle .start = true) := fun h => by simp [hd h.1] at h
  have h2 : ¬ (b.state = .finished ∧ b.givenUp = true) := fun h => by simp [hg h.1] at h
  simp only [State.refusedByHost, h1, h2, if_false, State.reportRefused]

theorem State.faultReported_recording {a : Nat} (hb : u.booking? b.handle = some b) (hn : u.now = now) (hst : b.state = .recording)
    (ha : b.actualStart = some a) :
    u.faultReported b = ((u.setActualStop b.handle).finish b.handle
      (if a + b.gapSeconds < now then ⟨.partially, .fault⟩ else ⟨.failed, .fault⟩) false).reportReply .ok b.handle := by
  simp [State.faultReported, hst, State.faultInRecording_eq hb ha, hn]

theorem State.faultReported_stopping (hb : u.booking? b.handle = some b) (hn : u.now = now) (hst : b.state = .stopping) :
    u.faultReported b = ((u.setActualStop b.handle).finish b.handle ((b.endedAt now).outcome .fault) false).reportReply .ok b.handle := by
  simp [State.faultReported, hst, State.finishByOutcome_eq (State.setActualStop_booking hb), hn]

end

end Sys2Proof.Machine

open Sys2Proof Sys2Proof.Machine

/-- Settles O51: each report is served by its owner, which finishes the booking (`State.serve_finishes`) or refuses the report
(`State.serve_still`), by the booking's state. -/
theorem reportsFinish : Obligations.ReportsFinish := by
  unfold Obligations.ReportsFinish
  intro tag body b s hp h0 ht hs hb
  have hfits := bodyFits_of_parseReport hp
  have htaken : (s.taken ⟨tag, 0x49, body⟩).booking? b.handle = some b := (s.taken_booking _ _).trans hb
  have hnow := s.taken_now ⟨tag, 0x49, body⟩
  refine ⟨fun hcode => ?ended, fun hcode => ?refused, fun hcode => ?fault⟩
  case ended =>
    exact ⟨_, request_report (fun b u => u.ended b) (by simp [Instr.wellFormed, hfits, hcode]) ht hp h0 hb,
      State.serve_surrounds fun u => u.ended_shell b,
      fun hst => State.serve_finishes_ended hs hb (State.ended_stopping htaken hnow hst),
      fun hst => State.serve_finishes_ended hs hb (State.ended_recording htaken hnow hst),
      fun hst ha => State.serve_still ht (State.ended_fault_late hst ha).1,
      fun hst => State.serve_still ht (State.ended_fault_mismatch hst).1⟩
  case refused =>
    refine ⟨_, request_report (fun b u => u.refusedByHost b) (by simp [Instr.wellFormed, hfits, hcode]) ht hp h0 hb,
      State.serve_surrounds fun u => u.refusedByHost_shell b, fun o hst ho hk hd => ?taken, fun hst hno => ?undelivered,
      fun v hst hv hgiven => ?late, fun hst hgiven => ?finished, fun hst => ?other⟩
    case taken =>
      refine State.serve_finishes (State.refusedByHost_due hst ?_) (State.taken_tables hs _) htaken (s.taken_time _)
      rw [State.taken_holdsDelivered, State.holdsDelivered_iff]
      exact ⟨o, ho, hk, hd⟩
    case undelivered =>
      refine State.serve_still ht ((State.refusedByHost_mismatch (fun _ => ?_) fun hf => ?_).trans (by rw [hst]))
      · rw [State.taken_holdsDelivered, State.holdsDelivered_eq_false hno]
      · simp [hst] at hf
    case late =>
      exact State.serve_still ht
        ((State.refusedByHost_late hst ((Booking.givenUp_iff hv).mpr hgiven)).trans (by rw [hv]))
    case finished =>
      have hnot : b.givenUp = false := by
        cases hv : b.verdict with
        | none => exact Booking.givenUp_of_none hv
        | some v =>
          rw [← Bool.not_eq_true, Booking.givenUp_iff hv, not_or]
          exact hgiven v hv
      refine State.serve_still ht ((State.refusedByHost_mismatch (fun hd => ?_) fun _ => hnot).trans (by rw [hst]))
      simp [hst] at hd
    case other =>
      refine State.serve_still ht (State.refusedByHost_mismatch (fun hd => ?_) fun hf => ?_)
      · simp [hd] at hst
      · simp [hf] at hst
  case fault =>
    exact ⟨_, request_report (fun b u => u.faultReported b) (by simp [Instr.wellFormed, hfits, hcode]) ht hp h0 hb,
      State.serve_surrounds fun u => u.faultReported_shell b,
      fun a hst ha => State.serve_finishes_ended hs hb (State.faultReported_recording htaken hnow hst ha),
      fun hst => State.serve_finishes_ended hs hb (State.faultReported_stopping htaken hnow hst),
      fun hst ha => State.serve_still ht (State.ended_fault_late hst ha).2,
      fun hst => State.serve_still ht (State.ended_fault_mismatch hst).2⟩

end

section
/-! The failover test (R135): which booking is tested, what its target is, and what the test leaves. -/

namespace Sys2Proof.Machine

/-! ## Whose test is next (R135; log 31) -/

theorem Booking.failoverDue_iff (b : Booking) :
    b.failoverDue = true ↔ b.state = .recording ∧ b.items.inGap = true ∧ b.items.failover = 0 := by
  simp [Booking.failoverDue, and_assoc]

/-- The booking tested next is the one due with the lowest handle. -/
theorem State.nextFailover_eq {s : State} {b : Booking} (hs : s.tablesHold) (hb : b ∈ s.book.records) (hd : b.failoverDue = true)
    (hlow : ∀ c ∈ s.book.records, c.handle < b.handle → ¬ c.failoverDue = true) : s.nextFailover = some b := by
  obtain ⟨before, after, hsplit⟩ := List.append_of_mem hb
  have horder := hs.1.1
  rw [hsplit, List.map_append, List.pairwise_append] at horder
  refine List.find?_eq_some_iff_append.mpr ⟨hd, before, after, hsplit, fun c hc => ?_⟩
  have hlt : c.handle < b.handle := horder.2.2 _ (List.mem_map_of_mem hc) _ (by simp)
  simpa using hlow c (by rw [hsplit]; simp [hc]) hlt

/-! ## The target (R135) -/

section
variable {s : State} {b : Booking} {x : TunerId} {e : Nat}

/-- With the other tuner Lost or Faulted there is no target. -/
theorem State.failoverTarget_of_gapping (hg : (s.tuner (otherTuner x)).condition.gapping = true) : s.failoverTarget b x e = none := by
  simp [State.failoverTarget, hg]

/-- Free to the effective end, the other tuner is the target with that end. -/
theorem State.failoverTarget_of_free (hg : (s.tuner (otherTuner x)).condition.gapping = false)
    (hf : (s.failoverGround b.handle).free (otherTuner x) (muxOf s.catalogue.services b.service) s.now e = true) :
    s.failoverTarget b x e = some ⟨otherTuner x, e⟩ := by
  simp [State.failoverTarget, hg, hf]

/-- A window with a conflict in it is not free. -/
theorem Ground.not_free_of_conflict {g : Ground} {y : TunerId} {mux start stop k : Nat} (h1 : start ≤ k) (h2 : k < stop)
    (hk : (g.kindsAt y true mux k).any = true) : g.free y mux start stop = false := by
  rw [← Bool.not_eq_true, Ground.free_iff]
  intro hf
  exact Bool.false_ne_true ((hf k h1 h2).symm.trans hk)

/-- In conflict before the nominal end there is no target. -/
theorem State.failoverTarget_of_early_conflict {k : Nat} (h1 : s.now ≤ k) (h2 : k < max s.now b.nominalStop) (h3 : k < e)
    (hk : ((s.failoverGround b.handle).kindsAt (otherTuner x) true (muxOf s.catalogue.services b.service) k).any = true) :
    s.failoverTarget b x e = none := by
  simp [State.failoverTarget, Ground.not_free_of_conflict h1 h2 hk, Ground.not_free_of_conflict h1 h3 hk]

/-- Free to the nominal end alone, the target is trimmed to the first conflict after it. -/
theorem State.failoverTarget_of_late_conflict {k : Nat} (hg : (s.tuner (otherTuner x)).condition.gapping = false)
    (h1 : max s.now b.nominalStop ≤ k) (h2 : k < e)
    (hk : ((s.failoverGround b.handle).kindsAt (otherTuner x) true (muxOf s.catalogue.services b.service) k).any = true)
    (hfirst : ∀ j, s.now ≤ j → j < k →
      ¬ ((s.failoverGround b.handle).kindsAt (otherTuner x) true (muxOf s.catalogue.services b.service) j).any = true) :
    s.failoverTarget b x e = some ⟨otherTuner x, k⟩ := by
  have hnow : s.now ≤ k := Nat.le_trans (Nat.le_max_left _ _) h1
  have hend := Ground.not_free_of_conflict hnow h2 hk
  have hnominal : (s.failoverGround b.handle).free (otherTuner x) (muxOf s.catalogue.services b.service) s.now
      (max s.now b.nominalStop) = true :=
    (Ground.free_iff _ _ _ _ _).mpr fun j hj hlt => Bool.eq_false_iff.mpr (hfirst j hj (Nat.lt_of_lt_of_le hlt h1))
  have hconflict : (s.failoverGround b.handle).firstConflict (otherTuner x) true (muxOf s.catalogue.services b.service)
      (max s.now b.nominalStop) none = some k :=
    Ground.firstConflict_eq_some_iff.mpr ⟨h1, rfl, hk, fun j hj hlt =>
      Bool.eq_false_iff.mpr (hfirst j (Nat.le_trans (Nat.le_max_left _ _) hj) hlt)⟩
  simp [State.failoverTarget, hg, hend, hnominal, hconflict, Nat.min_eq_right (Nat.le_of_lt h2)]

end

/-! ## What the test leaves (R135) -/

@[simp] theorem State.evaluateWake_monitor (s : State) : s.evaluateWake.monitor = s.monitor := by
  unfold State.evaluateWake
  repeat' split
  all_goals rfl

@[simp] theorem State.afterRemoval_monitor (s : State) (old : Option Order) : (s.afterRemoval old).monitor = s.monitor := by
  unfold State.afterRemoval
  repeat' split
  all_goals simp

@[simp] theorem State.issue_monitor (s : State) (kind : OrderKind) (h : Nat) (tuner : Option TunerId) (attempt : Nat)
    (onRunning : Bool) : (s.issue kind h tuner attempt onRunning).monitor = s.monitor := by
  unfold State.issue
  repeat' split
  all_goals simp [State.setOrderList]

theorem State.holds_iff (s : State) (h : Nat) (kind : OrderKind) :
    s.holds h kind = true ↔ ∃ o, s.orderOf h = some o ∧ o.kind = kind := by
  unfold State.holds
  cases s.orderOf h <;> simp

/-- The target a test issues a Move to: none while the booking holds a Move, or where the target's end is not after now (R135). -/
def State.failoverIssues (s : State) (b : Booking) (x : TunerId) (e : Nat) : Option MoveTarget :=
  if s.holds b.handle .move then none else (s.failoverTarget b x e).filter fun g => decide (s.now < g.stop)

/-- The record a test leaves: the count from GapLimit, and the target of the Move it issued (R135). -/
def Booking.tested (b : Booking) (issued : Option MoveTarget) (gapLimit : Nat) : Booking :=
  match issued with
  | none => { b with items := { b.items with failover := gapLimit } }
  | some g => { b with items := { b.items with failover := gapLimit, moveTarget := some g, lateMove := false } }

theorem Booking.tested_keeps (b : Booking) (issued : Option MoveTarget) (gapLimit : Nat) :
    (b.tested issued gapLimit).state = b.state ∧ (b.tested issued gapLimit).placement = b.placement ∧
      (b.tested issued gapLimit).items.failover = gapLimit ∧ (b.tested issued gapLimit).items.inGap = b.items.inGap := by
  cases issued <;> exact ⟨rfl, rfl, rfl, rfl⟩

section
variable {s : State} {b : Booking} {x : TunerId} {a e : Nat}

theorem State.failoverIssues_of_holds (hm : s.holds b.handle .move = true) : s.failoverIssues b x e = none := by
  simp [State.failoverIssues, hm]

theorem State.failoverIssues_of_none (ht : s.failoverTarget b x e = none) : s.failoverIssues b x e = none := by
  simp [State.failoverIssues, ht]

theorem State.failoverIssues_of_some {g : MoveTarget} (hm : s.holds b.handle .move = false) (ht : s.failoverTarget b x e = some g)
    (hlt : s.now < g.stop) : s.failoverIssues b x e = some g := by
  simp [State.failoverIssues, hm, ht, hlt]

/-- A test issues a Move, or issues nothing; then the count starts again (R135). -/
theorem State.testFailover_eq (hb : s.booking? b.handle = some b) (hp : b.placement = .placed x a e) :
    s.testFailover b.handle = (match s.failoverIssues b x e with
      | none => s
      | some g => s.issueMove b.handle g).restartFailover b.handle := by
  unfold State.testFailover State.failoverIssues State.failover
  rw [hb]
  dsimp only
  rw [hp]
  cases s.holds b.handle .move with
  | true => rfl
  | false =>
    cases ht : s.failoverTarget b x e with
    | none => simp [ht]
    | some g => by_cases hlt : s.now < g.stop <;> simp [ht, hlt, Option.filter]

theorem State.issueMove_booking (hb : s.booking? b.handle = some b) (g : MoveTarget) :
    (s.issueMove b.handle g).booking? b.handle =
      some { b with items := { b.items with moveTarget := some g, lateMove := false } } := by
  unfold State.issueMove
  rw [State.booking_of_book (State.issue_book _ _ _ _ _ _)]
  exact State.modBooking_booking_eq hb fun _ h => h

theorem State.issueMove_ordered (hb : s.booking? b.handle = some b) (g : MoveTarget) :
    (s.issueMove b.handle g).ordered s b.handle .move (some g.tuner) 1 false :=
  State.issue_order (u := s.modItems b.handle fun i => { i with moveTarget := some g, lateMove := false }) rfl
    (State.modBooking_booking_eq hb fun _ h => h) hb rfl rfl

/-- The record of the booking tested (R135). -/
theorem State.testFailover_booking (hb : s.booking? b.handle = some b) (hp : b.placement = .placed x a e) :
    (s.testFailover b.handle).booking? b.handle = some (b.tested (s.failoverIssues b x e) s.settings.gapLimit) := by
  rw [State.testFailover_eq hb hp]
  cases s.failoverIssues b x e with
  | none => exact State.modBooking_booking_eq hb fun _ h => h
  | some g =>
    have hset : (s.issueMove b.handle g).settings = s.settings :=
      congrArg (·.settings) (State.link_of_outer (s.issueMove_outer b.handle g))
    have hrec := State.modBooking_booking_eq (s.issueMove_booking hb g)
      (f := fun b => { b with items := { b.items with failover := s.settings.gapLimit } }) fun _ h => h
    rw [← hset] at hrec ⊢
    exact hrec

/-- The other records stand. -/
theorem State.testFailover_other (hb : s.booking? b.handle = some b) (hp : b.placement = .placed x a e) {k : Nat} (hk : k ≠ b.handle) :
    (s.testFailover b.handle).booking? k = s.booking? k := by
  have step : ∀ (u : State) (f : OrderItems → OrderItems), (u.modItems b.handle f).booking? k = u.booking? k := fun u f =>
    State.modBooking_booking_ne hk.symm fun _ => rfl
  rw [State.testFailover_eq hb hp]
  refine (step _ _).trans ?_
  cases s.failoverIssues b x e with
  | none => rfl
  | some g => exact (State.booking_of_book (State.issue_book _ _ _ _ _ _) k).trans (step _ _)

theorem State.testFailover_monitor (hb : s.booking? b.handle = some b) (hp : b.placement = .placed x a e) :
    (s.testFailover b.handle).monitor = s.monitor := by
  rw [State.testFailover_eq hb hp]
  cases s.failoverIssues b x e with
  | none => rfl
  | some g => exact State.issue_monitor _ _ _ _ _ _

/-- A test that issues nothing leaves the orders and the target (R135). -/
theorem State.testFailover_rests (hb : s.booking? b.handle = some b) (hp : b.placement = .placed x a e) (gapLimit : Nat)
    (hi : s.failoverIssues b x e = none) :
    (s.testFailover b.handle).settle.orders = s.orders ∧
      (b.tested (s.failoverIssues b x e) gapLimit).items.moveTarget = b.items.moveTarget := by
  rw [State.settle_orders, State.testFailover_eq hb hp, hi]
  exact ⟨rfl, rfl⟩

/-- A test that issues a Move: the order, to the target's tuner, and the target (R135). -/
theorem State.testFailover_moves {g : MoveTarget} (hb : s.booking? b.handle = some b) (hp : b.placement = .placed x a e)
    (gapLimit : Nat) (hi : s.failoverIssues b x e = some g) :
    (s.testFailover b.handle).settle.ordered s b.handle .move (some g.tuner) 1 false ∧
      (b.tested (s.failoverIssues b x e) gapLimit).items.moveTarget = some g ∧
      (b.tested (s.failoverIssues b x e) gapLimit).items.lateMove = false := by
  rw [State.testFailover_eq hb hp, hi]
  refine ⟨?_, rfl, rfl⟩
  exact (State.issueMove_ordered hb g).of_orderOf (State.settle_orderOf _ _)

end

end Sys2Proof.Machine

open Sys2Proof Sys2Proof.Machine

/-- Settles O48: the test is of this booking (`State.nextFailover_eq`), and each clause names the target it issues a Move to, if any
(`State.failoverIssues`). -/
theorem failoverIsTested : Obligations.FailoverIsTested := by
  unfold Obligations.FailoverIsTested
  intro b x a e s hr hs hb hrec hgap hcount hp hlow
  have hdue : s.nextFailover = some b :=
    State.nextFailover_eq hs (State.mem_of_booking hb) ((Booking.failoverDue_iff b).mpr ⟨hrec, hgap, hcount⟩)
      fun c hc hlt hd => hlow c hc hlt ((Booking.failoverDue_iff c).mp hd)
  obtain ⟨_, hexec, hbecomes, rfl⟩ := event_becomes (due := s.nextFailover.map (·.handle) == some b.handle)
    (act := fun s => s.testFailover b.handle) hr (by simp [hdue])
  obtain ⟨kstate, kplacement, kfailover, kgap⟩ := b.tested_keeps (s.failoverIssues b x e) s.settings.gapLimit
  have rests := State.testFailover_rests hb hp s.settings.gapLimit
  refine ⟨_, b.tested (s.failoverIssues b x e) s.settings.gapLimit, hexec, hbecomes.surrounds (s.testFailover_shell b.handle), ?monitor,
    ?record, kstate.trans hrec, kplacement, kfailover, kgap.trans hgap, ?others, ?holding, ?tested, s.failoverGround_reads b.handle⟩
  case monitor => rw [State.settle_monitor, State.testFailover_monitor hb hp]
  case record => rw [State.settle_booking, State.testFailover_booking hb hp]
  case others => exact fun k hk => by rw [State.settle_booking, State.testFailover_other hb hp hk]
  case holding =>
    exact fun o ho hk => rests (State.failoverIssues_of_holds ((s.holds_iff _ _).mpr ⟨o, ho, hk⟩))
  case tested =>
    intro hno
    have hm : s.holds b.handle .move = false := by
      rw [← Bool.not_eq_true, State.holds_iff]
      rintro ⟨o, ho, hk⟩
      exact hno o ho hk
    refine ⟨fun hg => ?gapping, fun hg hfree hlt => ?free, fun hg => ⟨fun k h1 h2 h3 hk => ?early, fun k h1 h2 hk hfirst hlt => ?late⟩⟩
    case gapping => exact rests (State.failoverIssues_of_none (State.failoverTarget_of_gapping hg))
    case free =>
      exact State.testFailover_moves hb hp _ (State.failoverIssues_of_some hm (State.failoverTarget_of_free hg hfree) hlt)
    case early => exact rests (State.failoverIssues_of_none (State.failoverTarget_of_early_conflict h1 h2 h3 hk))
    case late =>
      exact State.testFailover_moves hb hp _
        (State.failoverIssues_of_some hm (State.failoverTarget_of_late_conflict hg h1 h2 hk hfirst) hlt)

end

section
/-! A recording moved to its target tuner, or too late (R127). -/

namespace Sys2Proof.Machine

/-! ## The tuners set no move target (R134, R136, R152) -/

/-- The record at a handle, if there is one, has no move target. -/
def State.noTarget (s : State) (h : Nat) : Prop := ∀ b, s.booking? h = some b → b.items.moveTarget = none

section
variable {s t : State} {h : Nat}

theorem State.noTarget.of_book (hn : s.noTarget h) (hb : t.book = s.book) : t.noTarget h := fun b hf =>
  hn b ((State.booking_of_book hb h).symm.trans hf)

/-- A change of a record that sets no target. -/
theorem State.noTarget.modBooking (hn : s.noTarget h) (k : Nat) {f : Booking → Booking} (hh : ∀ b, (f b).handle = b.handle)
    (hf : ∀ b, b.items.moveTarget = none → (f b).items.moveTarget = none) : (s.modBooking k f).noTarget h := by
  intro c hc
  by_cases hk : k = h
  · subst hk
    obtain ⟨b, hb⟩ : ∃ b, s.booking? k = some b := by
      rw [← Option.isSome_iff_exists, State.booking_isSome_iff, ← State.modBooking_handles s k f hh, ← State.booking_isSome_iff, hc]
      rfl
    rw [State.modBooking_booking_eq hb fun b he => (hh b).trans he] at hc
    exact Option.some.inj hc ▸ hf b (hn b hb)
  · rw [State.modBooking_booking_ne hk hh] at hc
    exact hn c hc

theorem State.noTarget.foldl {α : Type} {f : State → α → State} (hf : ∀ u a, u.noTarget h → (f u a).noTarget h) (l : List α) :
    ∀ u : State, u.noTarget h → (l.foldl f u).noTarget h := by
  induction l with
  | nil => exact fun _ hn => hn
  | cons a l ih => exact fun u hn => ih _ (hf u a hn)

theorem State.noTarget.beginGap (hn : s.noTarget h) (k : Nat) : (s.beginGap k).noTarget h :=
  hn.modBooking k (fun _ => rfl) fun _ hb => hb

theorem State.noTarget.endGapOfTuner (hn : s.noTarget h) (k : Nat) : (s.endGapOfTuner k).noTarget h := by
  have hend : (s.endGap k).noTarget h := hn.modBooking k (fun _ => rfl) fun _ hb => hb
  have hgone : ((s.endGap k).modItems k fun i => { i with moveTarget := none }).noTarget h :=
    hend.modBooking k (fun _ => rfl) fun _ _ => rfl
  unfold State.endGapOfTuner
  dsimp only
  split
  · exact hgone.of_book (State.removeOrder_book _ _)
  · exact hend

theorem State.noTarget.changeTuner (hn : s.noTarget h) (x : TunerId) (new : Tuner) (cause : ChangeCause) :
    (s.changeTuner x new cause).noTarget h := by
  have hset : ((s.setTuner x { new with changeLatch := true }).offer
      (.tunerChange x new.condition new.faultLatch new.tuned cause)).noTarget h := hn.of_book (by simp)
  unfold State.changeTuner
  dsimp only
  split
  · exact State.noTarget.foldl (fun u b hu => hu.beginGap b.handle) _ _ hset
  · split
    · exact State.noTarget.foldl (fun u b hu => hu.endGapOfTuner b.handle) _ _ hset
    · exact hset

theorem State.noTarget.evaluateUse (hn : s.noTarget h) (x : TunerId) : (s.evaluateUse x).noTarget h := by
  unfold State.evaluateUse
  repeat' split
  · exact hn.changeTuner _ _ _
  · exact hn
  · exact hn
  · exact hn.changeTuner _ _ _

theorem State.noTarget.evaluateTuners (hn : s.noTarget h) : s.evaluateTuners.noTarget h := (hn.evaluateUse .a).evaluateUse .b

theorem State.noTarget.arrive (hn : s.noTarget h) (x : TunerId) (mux : Nat) : (s.arrive x mux).noTarget h := by
  unfold State.arrive
  dsimp only
  repeat' split
  · exact hn
  · exact hn.of_book (State.setTuner_book _ _ _)
  · exact hn.changeTuner _ _ _

theorem State.noTarget.bookingArrives (hn : s.noTarget h) (k : Nat) : (s.bookingArrives k).noTarget h := by
  unfold State.bookingArrives
  repeat' split
  · exact hn
  · exact hn.evaluateTuners
  · exact (hn.arrive _ _).evaluateTuners

end

/-- A change of its gap leaves a booking's placement, outcome, actual start and Moved mark. -/
theorem Booking.gapsOf.keeps {c b : Booking} (h : c.gapsOf b) :
    c.placement = b.placement ∧ c.verdict = b.verdict ∧ c.actualStart = b.actualStart ∧ c.flags.moved = b.flags.moved := by
  refine ⟨?_, ?_, ?_, ?_⟩ <;> rw [h.2]

/-! ## The gap judged on the new tuner (R127, R134) -/

@[simp] theorem State.judgeGap_orders (s : State) (h : Nat) : (s.judgeGap h).orders = s.orders := by
  unfold State.judgeGap
  repeat' split
  all_goals rfl

@[simp] theorem State.judgeGap_monitor (s : State) (h : Nat) : (s.judgeGap h).monitor = s.monitor := by
  unfold State.judgeGap
  repeat' split
  all_goals rfl

/-- The gap of a placed Recording booking judged: it is in a gap exactly when its tuner is Lost or Faulted (R127, R134). -/
theorem State.judgeGap_booking {s : State} {h : Nat} {b : Booking} {x : TunerId} (hb : s.booking? h = some b)
    (hst : b.state = .recording) (hx : b.placement.tuner? = some x) :
    ∃ c, (s.judgeGap h).booking? h = some c ∧ c.gapsOf b ∧ c.items.moveTarget = b.items.moveTarget ∧
      c.items.inGap = (s.tuner x).condition.gapping := by
  have hon : s.onGappingTuner b = (s.tuner x).condition.gapping := by simp [State.onGappingTuner, hx]
  have gap : ∀ c : Booking, c = { b with
      gapCount := c.gapCount
      flags := { b.flags with gaps := c.flags.gaps }
      items := { b.items with inGap := c.items.inGap, failover := c.items.failover, moveTarget := c.items.moveTarget } } →
      c.gapsOf b := fun c hc => ⟨fun hn => absurd hst hn, hc⟩
  unfold State.judgeGap
  rw [hb]
  dsimp only
  rw [← hon]
  cases s.onGappingTuner b with
  | true =>
    cases hg : b.items.inGap with
    | true => exact ⟨b, hb, Booking.gapsOf.rfl' b, rfl, hg⟩
    | false => exact ⟨_, State.modBooking_booking_eq hb fun _ hb => hb, gap _ rfl, rfl, rfl⟩
  | false =>
    cases hg : b.items.inGap with
    | true => exact ⟨_, State.modBooking_booking_eq hb fun _ hb => hb, gap _ rfl, rfl, rfl⟩
    | false => exact ⟨b, hb, Booking.gapsOf.rfl' b, rfl, hg⟩

/-! ## The move (R127; log 17) -/

/-- The record moved to a target, before its gap is judged (R127). -/
def Booking.movedTo (b : Booking) (g : MoveTarget) : Booking :=
  { b with
    placement := .placed g.tuner (b.placement.start?.getD 0) g.stop
    flags := { b.flags with moved := true }
    items := { b.items with moveTarget := none } }

/-- The placement written and the order answered, before the arrival (R127). -/
def State.placeMoved (s : State) (b : Booking) (g : MoveTarget) : State :=
  (s.modBooking b.handle fun b => b.movedTo g).removeOrder b.handle

theorem State.moveBooking_eq (s : State) (b : Booking) (g : MoveTarget) :
    s.moveBooking b g = (((s.placeMoved b g).bookingArrives b.handle).judgeGap b.handle).trigger := rfl

section
variable {s : State} {b : Booking}

theorem State.placeMoved_booking (hb : s.booking? b.handle = some b) (g : MoveTarget) :
    (s.placeMoved b g).booking? b.handle = some (b.movedTo g) :=
  (State.booking_of_book (State.removeOrder_book _ _) _).trans (State.modBooking_booking_eq hb fun _ h => h)

theorem State.placeMoved_tables (hs : s.tablesHold) (b : Booking) (g : MoveTarget) : (s.placeMoved b g).tablesHold :=
  State.removeOrder_tables (State.modBooking_tables hs b.handle (fun b => b.movedTo g) fun _ => rfl) b.handle

theorem State.placeMoved_orderOf (s : State) (b : Booking) (g : MoveTarget) : (s.placeMoved b g).orderOf b.handle = none := by
  unfold State.placeMoved
  rw [State.removeOrder_orderOf, if_pos rfl]

/-- The record after a move is the moved one but for its gap, which is judged on the target tuner as it then stands (R127, R134). -/
theorem State.moveBooking_booking (hs : s.tablesHold) (hb : s.booking? b.handle = some b) (hst : b.state = .recording) (g : MoveTarget) :
    ∃ c, (s.moveBooking b g).booking? b.handle = some c ∧ c.gapsOf (b.movedTo g) ∧ c.items.moveTarget = none ∧
      c.items.inGap = ((s.moveBooking b g).tuner g.tuner).condition.gapping := by
  have hrec := State.placeMoved_booking hb g
  have harrives := State.bookingArrives_gaps (State.placeMoved_tables hs b g) b.handle
  have hnone : (s.placeMoved b g).noTarget b.handle := fun c hc => by
    obtain rfl := Option.some.inj (hrec.symm.trans hc)
    rfl
  obtain ⟨_, _, _, _, _, _, hrecords, _⟩ := harrives
  obtain ⟨d, hd, hdgap⟩ := hrecords _ _ hrec
  have hdplace : d.placement = (b.movedTo g).placement := hdgap.keeps.1
  obtain ⟨c, hc, hcgap, htarget, hin⟩ := State.judgeGap_booking (x := g.tuner) hd (hdgap.state.trans hst) (by rw [hdplace]; rfl)
  refine ⟨c, hc, hcgap.trans hdgap, htarget.trans (hnone.bookingArrives _ d hd), hin.trans ?_⟩
  have hmon : (s.moveBooking b g).monitor = ((s.placeMoved b g).bookingArrives b.handle).monitor := State.judgeGap_monitor _ _
  unfold State.tuner
  rw [hmon]

/-- After a move the booking holds no order (R127). -/
theorem State.moveBooking_orderOf (hs : s.tablesHold) (g : MoveTarget) : (s.moveBooking b g).orderOf b.handle = none := by
  have hjudged : (s.moveBooking b g).orders = ((s.placeMoved b g).bookingArrives b.handle).orders := State.judgeGap_orders _ _
  rw [State.orderOf_of_orders hjudged]
  obtain ⟨_, _, _, _, _, _, _, hkept⟩ := State.bookingArrives_gaps (State.placeMoved_tables hs b g) b.handle
  rcases hkept b.handle with hsame | ⟨hnone, _⟩
  · exact hsame.trans (s.placeMoved_orderOf b g)
  · exact hnone

/-! ## Too late (R127, R136) -/

/-- A Move dropped: the record without its target and with the late-move mark, and no order (R127, R136). -/
theorem State.dropMove_drops (hb : s.booking? b.handle = some b) :
    (s.dropMove b.handle).booking? b.handle = some { b with items := { b.items with moveTarget := none, lateMove := true } } ∧
      (s.dropMove b.handle).orderOf b.handle = none ∧ (s.dropMove b.handle).planner = s.planner := by
  unfold State.dropMove
  refine ⟨?_, ?_, (State.removeOrder_rest _ _).1⟩
  · rw [State.booking_of_book (State.removeOrder_book _ _)]
    exact State.modBooking_booking_eq hb fun _ h => h
  · rw [State.removeOrder_orderOf, if_pos rfl]

/-! ## The owner of MOVED (R127) -/

theorem State.reportReply_of_booking {h : Nat} (hb : s.booking? h = some b) (r : Result) :
    s.reportReply r h = (s, .done r (.report b.state b.verdict)) := by
  unfold State.reportReply
  rw [hb]

theorem State.taken_moveStillFree (s : State) (f : Frame) (b : Booking) (g : MoveTarget) :
    (s.taken f).moveStillFree b g = s.moveStillFree b g := by
  obtain ⟨v, hv⟩ := s.taken_eq_inService f
  rw [hv]
  rfl

theorem State.moved_of_target {g : MoveTarget} (hst : b.state = .recording) (hd : s.holdsDelivered b.handle .move = true)
    (hg : b.items.moveTarget = some g) :
    s.moved b = if s.moveStillFree b g = true then (s.moveBooking b g).reportReply .ok b.handle
      else (s.dropMove b.handle).reportReply .tooLate b.handle := by
  unfold State.moved
  dsimp only
  rw [if_pos ⟨hst, hd⟩, hg]

theorem State.moved_refused (h : b.state ≠ .recording ∨ s.holdsDelivered b.handle .move = false) :
    s.moved b = (s, .done (if b.items.lateMove = true then .tooLate else .stateMismatch) (.report b.state b.verdict)) := by
  have hn : ¬ (b.state = .recording ∧ s.holdsDelivered b.handle .move = true) := by
    rintro ⟨hst, hd⟩
    exact h.elim (fun hne => hne hst) fun hf => Bool.false_ne_true (hf.symm.trans hd)
  unfold State.moved State.reportRefused
  dsimp only
  rw [if_neg hn]
  split <;> rfl

end

end Sys2Proof.Machine

open Sys2Proof Sys2Proof.Machine

/-- Settles O52: a delivered Move is taken while its window is free (`State.moveBooking_booking`), dropped otherwise
(`State.dropMove_drops`), and a report without one is refused. -/
theorem movedMovesTheRecording : Obligations.MovedMovesTheRecording := by
  unfold Obligations.MovedMovesTheRecording
  intro tag body b s hp h0 hcode ht hs hb
  have htaken : (s.taken ⟨tag, 0x49, body⟩).booking? b.handle = some b := (s.taken_booking _ _).trans hb
  have htables := State.taken_tables hs ⟨tag, 0x49, body⟩
  have hmoved : ∀ o g, b.state = .recording → s.orderOf b.handle = some o → o.kind = .move → o.delivered = true →
      b.items.moveTarget = some g → (s.taken ⟨tag, 0x49, body⟩).moved b =
        if s.moveStillFree b g = true then ((s.taken ⟨tag, 0x49, body⟩).moveBooking b g).reportReply .ok b.handle
        else ((s.taken ⟨tag, 0x49, body⟩).dropMove b.handle).reportReply .tooLate b.handle := by
    intro o g hst ho hk hd hg
    rw [← s.taken_moveStillFree ⟨tag, 0x49, body⟩]
    exact State.moved_of_target hst ((s.taken_holdsDelivered _ _ _).trans ((s.holdsDelivered_iff _ _).mpr ⟨o, ho, hk, hd⟩)) hg
  refine ⟨_, request_report (fun b u => u.moved b) (by simp [Instr.wellFormed, bodyFits_of_parseReport hp, hcode]) ht hp h0 hb,
    State.serve_surrounds fun u => u.moved_shell b, fun o g x a e hst ho hk hd hg hplace => ⟨fun hfree => ?free, fun hbusy => ?late⟩,
    fun hno => ?refused, s.failoverGround_reads b.handle⟩
  case free =>
    obtain ⟨c, hc, hgap, htarget, hin⟩ := State.moveBooking_booking htables htaken hst g
    obtain ⟨cplace, cverdict, cstart, cmoved⟩ := hgap.keeps
    have cstate : c.state = .recording := hgap.state.trans hst
    have howner := (hmoved o g hst ho hk hd hg).trans (if_pos hfree)
    rw [State.reportReply_of_booking hc, cstate, show c.verdict = b.verdict from cverdict] at howner
    refine ⟨?order, State.serve_awaits (congrArg (·.2) howner) ?asked, c, ?record, cstate, ?place, cmoved, htarget, cstart, ?gap⟩
    case order => rw [State.serve_orderOf, howner, State.moveBooking_orderOf htables]
    case asked => rw [howner]; rfl
    case record => rw [State.serve_booking, howner, hc]
    case place => rw [cplace]; simp [Booking.movedTo, hplace, Placement.start?]
    case gap => rw [State.serve_tuner, howner, hin]
  case late =>
    obtain ⟨hrec, hnone, hplanner⟩ := State.dropMove_drops htaken
    have howner := (hmoved o g hst ho hk hd hg).trans (if_neg (Bool.not_eq_true _ ▸ hbusy))
    rw [State.reportReply_of_booking hrec, hst] at howner
    have hidle : ((s.taken ⟨tag, 0x49, body⟩).moved b).1.planner.triggered = false := by
      rw [howner, hplanner]
      exact State.taken_idle ht
    refine ⟨?order, ?planner, ?reply, ?record⟩
    case order => rw [State.serve_orderOf, howner, hnone]
    case planner => rw [State.serve_planner hidle, howner, hplanner, State.taken_planner]
    case reply =>
      have hsends := State.serve_sends (f := ⟨tag, 0x49, body⟩) (owner := fun u => u.moved b) hidle
      rw [howner] at hsends
      exact hsends
    case record => rw [State.serve_booking, howner, hrec]
  case refused =>
    exact State.serve_still ht (State.moved_refused (hno.imp_right fun hno =>
      (s.taken_holdsDelivered _ _ _).trans (State.holdsDelivered_eq_false hno)))

end

section
/-! The Tuner Monitor's operations: what a change of a tuner writes, tells and leaves alone (R134, R152, R153), the gaps that begin with one,
and what a fault latch does (R149). -/

namespace Sys2Proof.Machine

/-! ## One tuner written -/

theorem otherTuner_ne (x : TunerId) : otherTuner x ≠ x := by
  cases x <;> decide

theorem State.tuner_of_monitor {s t : State} (h : t.monitor = s.monitor) (x : TunerId) : t.tuner x = s.tuner x := by
  unfold State.tuner
  rw [h]

@[simp] theorem State.setTuner_tuner_same (s : State) (x : TunerId) (u : Tuner) : (s.setTuner x u).tuner x = u := by
  cases x <;> rfl

theorem State.setTuner_tuner_ne (s : State) {x y : TunerId} (h : y ≠ x) (u : Tuner) : (s.setTuner x u).tuner y = s.tuner y := by
  cases x <;> cases y <;> trivial

@[simp] theorem State.setTuner_live (s : State) (x : TunerId) (u : Tuner) : (s.setTuner x u).monitor.live = s.monitor.live := by
  cases x <;> rfl

@[simp] theorem State.setTuner_notices (s : State) (x : TunerId) (u : Tuner) : (s.setTuner x u).notices = s.notices := by
  cases x <;> rfl

@[simp] theorem State.setTuner_orders (s : State) (x : TunerId) (u : Tuner) : (s.setTuner x u).orders = s.orders := by
  cases x <;> rfl

@[simp] theorem State.setTuner_wake (s : State) (x : TunerId) (u : Tuner) : (s.setTuner x u).wake = s.wake := by
  cases x <;> rfl

@[simp] theorem State.setTuner_links (s : State) (x : TunerId) (u : Tuner) : (s.setTuner x u).links = s.links := by
  cases x <;> rfl

/-! ## What no gap touches -/

/-- Of each record, whether it holds its tuner now, and where it is placed (R142). -/
def State.pins (s : State) : List (Bool × Placement) := s.book.records.map fun b => (b.pinned, b.placement)

/-- What the beginning and the end of a gap leave alone behind the link: all but the gaps, the orders and the Wake Unit. -/
def State.aside (s : State) : TunerMonitor × NoticeQueue × Planner × List Link × Estimator × List (Bool × Placement) :=
  (s.monitor, s.notices, s.planner, s.links, s.storage, s.pins)

/-- A change of one record that leaves its state and its placement. -/
theorem State.modBooking_aside (s : State) (h : Nat) {f : Booking → Booking}
    (hf : ∀ b, (f b).state = b.state ∧ (f b).placement = b.placement) : (s.modBooking h f).aside = s.aside := by
  have hpins : (s.modBooking h f).pins = s.pins := by
    simp only [State.pins, State.modBooking, State.setBook_book, List.map_map]
    exact List.map_congr_left fun b _ => by by_cases hb : b.handle = h <;> simp [hb, Booking.pinned, hf]
  unfold State.aside
  rw [hpins]
  rfl

theorem State.modItems_aside (s : State) (h : Nat) (f : OrderItems → OrderItems) : (s.modItems h f).aside = s.aside :=
  s.modBooking_aside h fun _ => ⟨rfl, rfl⟩

theorem State.beginGap_aside (s : State) (h : Nat) : (s.beginGap h).aside = s.aside :=
  s.modBooking_aside h fun _ => ⟨rfl, rfl⟩

theorem State.removeOrder_aside (s : State) (h : Nat) : (s.removeOrder h).aside = s.aside := by
  obtain ⟨hplanner, hlinks, hstorage, hmonitor, hnotices, _⟩ := s.removeOrder_rest h
  unfold State.aside State.pins
  rw [hplanner, hlinks, hstorage, hmonitor, hnotices, State.removeOrder_book]

theorem State.endGapOfTuner_aside (s : State) (h : Nat) : (s.endGapOfTuner h).aside = s.aside := by
  unfold State.endGapOfTuner
  dsimp only
  split
  · exact ((State.removeOrder_aside _ h).trans (State.modItems_aside _ h _)).trans (s.modItems_aside h _)
  · exact s.modItems_aside h _

theorem foldl_aside {α : Type} {f : State → α → State} (hf : ∀ s a, (f s a).aside = s.aside) (l : List α) (s : State) :
    (l.foldl f s).aside = s.aside := by
  induction l generalizing s with
  | nil => rfl
  | cons a l ih => exact (ih (f s a)).trans (hf s a)

theorem State.gapsBegin_aside (s : State) (x : TunerId) : (s.gapsBegin x).aside = s.aside :=
  foldl_aside (fun s (b : Booking) => s.beginGap_aside b.handle) _ s

theorem State.gapsEnd_aside (s : State) (x : TunerId) : (s.gapsEnd x).aside = s.aside :=
  foldl_aside (fun s (b : Booking) => s.endGapOfTuner_aside b.handle) _ s

/-! ## A tuner changes (R152, R153) -/

/-- A tuner changed and its notice offered, before the Order Unit is told (R152, R153). -/
def State.writeTuner (s : State) (x : TunerId) (new : Tuner) (cause : ChangeCause) : State :=
  (s.setTuner x { new with changeLatch := true }).offer (.tunerChange x new.condition new.faultLatch new.tuned cause)

section
variable (s : State) (x : TunerId) (new : Tuner) (cause : ChangeCause)

@[simp] theorem State.writeTuner_book : (s.writeTuner x new cause).book = s.book := by cases x <;> rfl
@[simp] theorem State.writeTuner_orders : (s.writeTuner x new cause).orders = s.orders := by cases x <;> rfl
@[simp] theorem State.writeTuner_settings : (s.writeTuner x new cause).settings = s.settings := by cases x <;> rfl

theorem State.writeTuner_notices : (s.writeTuner x new cause).notices = s.tellChange x new cause s.notices := by
  cases x <;> rfl

@[simp] theorem State.writeTuner_tuner_same : (s.writeTuner x new cause).tuner x = { new with changeLatch := true } :=
  s.setTuner_tuner_same x _

/-- The notice of a change carries the tuner as it stands after it (R153). -/
theorem State.writeTuner_told :
    (s.writeTuner x new cause).notices = s.tellChange x ((s.writeTuner x new cause).tuner x) cause s.notices := by
  rw [State.writeTuner_tuner_same]
  exact s.writeTuner_notices x new cause

theorem State.writeTuner_tables {s : State} (hs : s.tablesHold) (x : TunerId) (new : Tuner) (cause : ChangeCause) :
    (s.writeTuner x new cause).tablesHold :=
  State.offer_tables (State.setTuner_tables hs x _) _

theorem State.writeTuner_aside :
    (s.writeTuner x new cause).aside = ((s.setTuner x { new with changeLatch := true }).monitor, s.tellChange x new cause s.notices,
      s.planner, s.links, s.storage, s.pins) := by
  cases x <;> rfl

/-- A change of a tuner writes and tells it; the Order Unit is told of an entry into Lost or Faulted and of an exit (R152). -/
theorem State.changeTuner_eq :
    s.changeTuner x new cause =
      if new.condition.gapping && !(s.tuner x).condition.gapping then (s.writeTuner x new cause).gapsBegin x
      else if (s.tuner x).condition.gapping && !new.condition.gapping then (s.writeTuner x new cause).gapsEnd x
      else s.writeTuner x new cause := rfl

theorem State.changeTuner_aside :
    (s.changeTuner x new cause).aside = ((s.setTuner x { new with changeLatch := true }).monitor, s.tellChange x new cause s.notices,
      s.planner, s.links, s.storage, s.pins) := by
  rw [← State.writeTuner_aside, State.changeTuner_eq]
  repeat' split
  · exact State.gapsBegin_aside _ x
  · exact State.gapsEnd_aside _ x
  · rfl

theorem State.changeTuner_monitor :
    (s.changeTuner x new cause).monitor = (s.setTuner x { new with changeLatch := true }).monitor :=
  congrArg (·.1) (s.changeTuner_aside x new cause)

theorem State.changeTuner_notices : (s.changeTuner x new cause).notices = s.tellChange x new cause s.notices :=
  congrArg (·.2.1) (s.changeTuner_aside x new cause)

@[simp] theorem State.changeTuner_links : (s.changeTuner x new cause).links = s.links :=
  congrArg (·.2.2.2.1) (s.changeTuner_aside x new cause)
@[simp] theorem State.changeTuner_storage : (s.changeTuner x new cause).storage = s.storage :=
  congrArg (·.2.2.2.2.1) (s.changeTuner_aside x new cause)
@[simp] theorem State.changeTuner_pins : (s.changeTuner x new cause).pins = s.pins :=
  congrArg (·.2.2.2.2.2) (s.changeTuner_aside x new cause)

@[simp] theorem State.changeTuner_live : (s.changeTuner x new cause).monitor.live = s.monitor.live := by
  rw [State.changeTuner_monitor, State.setTuner_live]

@[simp] theorem State.changeTuner_tuner_same : (s.changeTuner x new cause).tuner x = { new with changeLatch := true } := by
  rw [State.tuner_of_monitor (s.changeTuner_monitor x new cause), State.setTuner_tuner_same]

/-- The notice of a change carries the tuner as it stands after it (R153). -/
theorem State.changeTuner_told :
    (s.changeTuner x new cause).notices = s.tellChange x ((s.changeTuner x new cause).tuner x) cause s.notices := by
  rw [State.changeTuner_tuner_same]
  exact s.changeTuner_notices x new cause

theorem State.changeTuner_tuner_ne {y : TunerId} (h : y ≠ x) : (s.changeTuner x new cause).tuner y = s.tuner y := by
  rw [State.tuner_of_monitor (s.changeTuner_monitor x new cause), State.setTuner_tuner_ne s h]

end

/-- A change that neither enters nor leaves Lost and Faulted begins and ends no gap. -/
theorem State.changeTuner_of_gapping_eq {s : State} {x : TunerId} {new : Tuner} (cause : ChangeCause)
    (h : new.condition.gapping = (s.tuner x).condition.gapping) : s.changeTuner x new cause = s.writeTuner x new cause := by
  rw [State.changeTuner_eq, h]
  cases (s.tuner x).condition.gapping <;> rfl

/-! ## Gaps that begin (R134) -/

/-- The record of a booking whose gap has begun (R134, R135). -/
def Booking.gapBegun (b : Booking) (gapLimit : Nat) : Booking :=
  { b with
    gapCount := min (b.gapCount + 1) 65535
    flags := { b.flags with gaps := true }
    items := { b.items with inGap := true, failover := gapLimit } }

/-- A gap has begun in t for each booking Recording on tuner x that was in none in s; every other record, and every order, is s's (R134,
R152). -/
def State.gapsBeginOn (t s : State) (x : TunerId) : Prop :=
  t.orders = s.orders ∧ ∀ b, s.booking? b.handle = some b →
    (b.state = .recording ∧ b.placement.tuner? = some x ∧ b.items.inGap = false →
      t.booking? b.handle = some (b.gapBegun s.settings.gapLimit)) ∧
    (¬ (b.state = .recording ∧ b.placement.tuner? = some x ∧ b.items.inGap = false) → t.booking? b.handle = some b)

theorem State.beginGap_booking {s : State} {b : Booking} (hb : s.booking? b.handle = some b) :
    (s.beginGap b.handle).booking? b.handle = some (b.gapBegun s.settings.gapLimit) :=
  State.modBooking_booking_eq hb fun _ h => h

theorem State.beginGap_other (s : State) {h k : Nat} (hk : k ≠ h) : (s.beginGap h).booking? k = s.booking? k :=
  State.modBooking_booking_ne hk.symm fun _ => rfl

/-- The gaps of a list of bookings begin, and no other record changes. -/
theorem State.beginGaps_begin (l : List Booking) : ∀ s : State, (l.map (·.handle)).Nodup →
    (∀ b ∈ l, s.booking? b.handle = some b) →
    (∀ b ∈ l, (l.foldl (fun s b => s.beginGap b.handle) s).booking? b.handle = some (b.gapBegun s.settings.gapLimit)) ∧
      ∀ k, k ∉ l.map (·.handle) → (l.foldl (fun s b => s.beginGap b.handle) s).booking? k = s.booking? k := by
  induction l with
  | nil => exact fun s _ _ => ⟨by simp, fun _ _ => rfl⟩
  | cons a l ih =>
    intro s hn hl
    simp only [List.map_cons, List.nodup_cons] at hn
    have other : ∀ b ∈ l, b.handle ≠ a.handle := fun b hb e => hn.1 (e ▸ List.mem_map_of_mem hb)
    obtain ⟨begun, rest⟩ := ih (s.beginGap a.handle) hn.2 fun b hb => by
      rw [s.beginGap_other (other b hb)]
      exact hl b (by simp [hb])
    refine ⟨fun b hb => ?_, fun k hk => ?_⟩
    · rcases List.mem_cons.mp hb with rfl | hb
      · exact (rest _ hn.1).trans (State.beginGap_booking (hl b (by simp)))
      · exact begun b hb
    · simp only [List.map_cons, List.mem_cons, not_or] at hk
      exact (rest k hk.2).trans (s.beginGap_other hk.1)

/-- What the Order Unit does when it is told that a tuner has entered Lost or Faulted (R134, R152). -/
theorem State.gapsBegin_begins {s : State} (hs : s.tablesHold) (x : TunerId) : (s.gapsBegin x).gapsBeginOn s x := by
  refine ⟨foldl_orders (fun s (b : Booking) => s.beginGap b.handle) (fun _ _ => rfl) _ s, fun b hb => ?_⟩
  have nodup : ((s.book.records.filter fun b =>
      b.state == .recording && b.placement.tuner? == some x && !b.items.inGap).map (·.handle)).Nodup :=
    (hs.1.1.imp Nat.ne_of_lt).sublist ((List.filter_sublist).map _)
  obtain ⟨begun, rest⟩ := State.beginGaps_begin _ s nodup fun c hc => State.booking_of_mem hs (List.mem_filter.mp hc).1
  refine ⟨fun h => begun b (List.mem_filter.mpr ⟨State.mem_of_booking hb, by simp [h]⟩), fun h => (rest _ fun hk => h ?_).trans hb⟩
  obtain ⟨c, hc, hh⟩ := List.mem_map.mp hk
  obtain ⟨hcm, hp⟩ := List.mem_filter.mp hc
  obtain rfl : c = b := by
    have hfound := State.booking_of_mem hs hcm
    rw [hh, hb] at hfound
    exact (Option.some.inj hfound).symm
  simpa [and_assoc] using hp

/-- A change of a tuner that takes it into Lost or Faulted begins the gaps on it (R152). -/
theorem State.changeTuner_begins {s : State} (hs : s.tablesHold) (x : TunerId) (new : Tuner) (cause : ChangeCause)
    (ho : (s.tuner x).condition.gapping = false) (hn : new.condition.gapping = true) :
    (s.changeTuner x new cause).gapsBeginOn s x := by
  obtain ⟨horders, hrecords⟩ := State.gapsBegin_begins (State.writeTuner_tables hs x new cause) x
  rw [State.changeTuner_eq, ho, hn]
  refine ⟨horders.trans (s.writeTuner_orders x new cause), fun b hb => ?_⟩
  have hfound := hrecords b ((State.booking_of_book (s.writeTuner_book x new cause) _).trans hb)
  rw [State.writeTuner_settings] at hfound
  exact hfound

end Sys2Proof.Machine

end

section
/-! The in-use rule: the items a tuner carries, the multiplex it comes into use with, and what evaluating it leaves (R142, R143, R148). -/

namespace Sys2Proof.Machine

/-! ## The items a tuner carries (R142) -/

/-- An item on tuner x: a booking in Due, Recording or Stopping, or the live placement with a span that is not empty (R142). -/
def State.carriesItem (s : State) (x : TunerId) (start rank mux : Nat) : Prop :=
  (∃ b e, b ∈ s.book.records ∧ (b.state = .due ∨ b.state = .recording ∨ b.state = .stopping) ∧ b.placement = .placed x start e ∧
    rank = b.handle ∧ mux = muxOf s.catalogue.services b.service) ∨
  (∃ c p, s.monitor.live = some c ∧ c.placement = some p ∧ p.tuner = x ∧ p.start = start ∧ (∀ e, p.stop = some e → start < e) ∧
    rank = 65536 ∧ mux = p.mux)

/-- A booking as an item its tuner carries (R142). -/
def State.carriedBooking (s : State) (b : Booking) : Carried :=
  ⟨b.placement.start?.getD 0, b.handle, muxOf s.catalogue.services b.service⟩

/-- The live placement as an item its tuner carries, above every handle (R142). -/
def LivePlacement.carried (p : LivePlacement) : Carried := ⟨p.start, 65536, p.mux⟩

/-- The items a tuner carries, in the order in which they are compared (R142). -/
def State.carriedOn (s : State) (x : TunerId) : List Carried :=
  (s.pinnedOn x).map s.carriedBooking ++ (s.liveOn x).toList.map LivePlacement.carried

theorem Booking.pinned_iff (b : Booking) : b.pinned = true ↔ b.state = .due ∨ b.state = .recording ∨ b.state = .stopping := by
  simp [Booking.pinned, or_assoc]

theorem Placement.tuner?_eq_some_iff (p : Placement) (x : TunerId) : p.tuner? = some x ↔ ∃ a e, p = .placed x a e := by
  cases p <;> simp [Placement.tuner?]

theorem State.mem_pinnedOn_iff (s : State) (x : TunerId) (b : Booking) :
    b ∈ s.pinnedOn x ↔ b ∈ s.book.records ∧ b.pinned = true ∧ b.placement.tuner? = some x := by
  simp [State.pinnedOn]

theorem LivePlacement.carries_iff (p : LivePlacement) : p.carries = true ↔ ∀ e, p.stop = some e → p.start < e := by
  unfold LivePlacement.carries
  cases p.stop <;> simp

theorem State.liveOn_eq_some_iff (s : State) (x : TunerId) (p : LivePlacement) :
    s.liveOn x = some p ↔ ∃ c, s.monitor.live = some c ∧ c.placement = some p ∧ p.tuner = x ∧ p.carries = true := by
  unfold State.liveOn
  cases s.monitor.live with
  | none => simp
  | some c =>
    cases hp : c.placement with
    | none => simp [hp]
    | some q =>
      by_cases hq : q.tuner = x ∧ q.carries = true
      · simp only [hp, if_pos hq, Option.some.injEq, exists_eq_left']
        exact ⟨fun h => h ▸ ⟨rfl, hq⟩, fun h => h.1⟩
      · simp only [hp, if_neg hq, Option.some.injEq, exists_eq_left', reduceCtorEq, false_iff]
        rintro ⟨rfl, h⟩
        exact hq h

theorem State.mem_carriedOn_iff (s : State) (x : TunerId) (start rank mux : Nat) :
    ⟨start, rank, mux⟩ ∈ s.carriedOn x ↔ s.carriesItem x start rank mux := by
  unfold State.carriedOn State.carriesItem
  rw [List.mem_append]
  refine or_congr ⟨fun h => ?_, ?_⟩ ⟨fun h => ?_, ?_⟩
  · obtain ⟨b, hb, heq⟩ := List.mem_map.mp h
    obtain ⟨hmem, hpinned, hplace⟩ := (s.mem_pinnedOn_iff x b).mp hb
    obtain ⟨a, e, hp⟩ := (Placement.tuner?_eq_some_iff _ x).mp hplace
    simp only [State.carriedBooking, hp, Placement.start?, Option.getD_some, Carried.mk.injEq] at heq
    obtain ⟨rfl, hrank, hmux⟩ := heq
    exact ⟨b, e, hmem, b.pinned_iff.mp hpinned, hp, hrank.symm, hmux.symm⟩
  · rintro ⟨b, e, hmem, hst, hp, rfl, rfl⟩
    refine List.mem_map.mpr ⟨b, (s.mem_pinnedOn_iff x b).mpr ⟨hmem, b.pinned_iff.mpr hst, ?_⟩, ?_⟩
    · rw [hp]; rfl
    · simp [State.carriedBooking, hp, Placement.start?]
  · obtain ⟨p, hp, heq⟩ := List.mem_map.mp h
    obtain ⟨c, hc, hplace, htuner, hcarries⟩ := (s.liveOn_eq_some_iff x p).mp (Option.mem_toList.mp hp)
    simp only [LivePlacement.carried, Carried.mk.injEq] at heq
    obtain ⟨rfl, rfl, rfl⟩ := heq
    exact ⟨c, p, hc, hplace, htuner, rfl, p.carries_iff.mp hcarries, rfl, rfl⟩
  · rintro ⟨c, p, hc, hplace, htuner, rfl, hspan, rfl, rfl⟩
    exact List.mem_map.mpr ⟨p, Option.mem_toList.mpr
      ((s.liveOn_eq_some_iff x p).mpr ⟨c, hc, hplace, htuner, p.carries_iff.mpr hspan⟩), rfl⟩

/-- A tuner is in use while the host is up and it carries an item (R142). -/
theorem State.inUse_iff (s : State) (x : TunerId) :
    s.inUse x = true ↔ s.wake.host = .up ∧ ∃ start rank mux, s.carriesItem x start rank mux := by
  have hitem : (∃ start rank mux, s.carriesItem x start rank mux) ↔ s.carriedOn x ≠ [] := by
    constructor
    · rintro ⟨start, rank, mux, h⟩
      exact List.ne_nil_of_mem ((s.mem_carriedOn_iff x start rank mux).mpr h)
    · intro h
      obtain ⟨⟨start, rank, mux⟩, hc⟩ := List.exists_mem_of_ne_nil _ h
      exact ⟨start, rank, mux, (s.mem_carriedOn_iff x start rank mux).mp hc⟩
  rw [hitem]
  unfold State.inUse State.carriedOn
  cases s.liveOn x <;> simp

/-! ## The item of the latest effective start (R142) -/

/-- c does not come after d: an earlier effective start, or an equal one with no higher rank (R142). -/
def Carried.upTo (c d : Carried) : Prop := c.start < d.start ∨ (c.start = d.start ∧ c.rank ≤ d.rank)

theorem Carried.upTo.trans {c d e : Carried} (h1 : c.upTo d) (h2 : d.upTo e) : c.upTo e := by
  unfold Carried.upTo at *
  omega

/-- The later of two items is one of them, and neither comes after it. -/
theorem Carried.later_spec (c d : Carried) : (c.later d = c ∨ c.later d = d) ∧ c.upTo (c.later d) ∧ d.upTo (c.later d) := by
  unfold Carried.later
  split
  · rename_i h
    exact ⟨Or.inr rfl, by unfold Carried.upTo; omega, by unfold Carried.upTo; omega⟩
  · rename_i h
    exact ⟨Or.inl rfl, by unfold Carried.upTo; omega, by unfold Carried.upTo; omega⟩

/-- The latest of a list of items is one of them, and none comes after it. -/
theorem Carried.foldl_later_spec (l : List Carried) : ∀ c : Carried,
    l.foldl Carried.later c ∈ c :: l ∧ ∀ d ∈ c :: l, d.upTo (l.foldl Carried.later c) := by
  induction l with
  | nil => exact fun c => ⟨by simp, fun d hd => by simp at hd; subst hd; exact Or.inr ⟨rfl, Nat.le_refl _⟩⟩
  | cons a l ih =>
    intro c
    obtain ⟨hmem, hmax⟩ := ih (c.later a)
    obtain ⟨hone, hc, ha⟩ := c.later_spec a
    have hlater := hmax _ List.mem_cons_self
    refine ⟨?_, fun d hd => ?_⟩
    · rcases List.mem_cons.mp hmem with h | h
      · rw [List.foldl_cons, h]
        rcases hone with h1 | h1 <;> simp [h1]
      · simp [h]
    · simp only [List.mem_cons] at hd
      rcases hd with rfl | rfl | hd
      · exact hc.trans hlater
      · exact ha.trans hlater
      · exact hmax d (List.mem_cons_of_mem _ hd)

/-- The multiplex of the latest of a list of items (R142). -/
def Carried.latestMux : List Carried → Option Nat
  | [] => none
  | c :: l => some (l.foldl Carried.later c).mux

theorem State.tunedFor_eq (s : State) (x : TunerId) : s.tunedFor x = Carried.latestMux (s.carriedOn x) := by
  unfold State.tunedFor State.carriedOn
  cases s.liveOn x <;> rfl

/-- A tuner that carries an item takes the multiplex of the one of the latest effective start (R142). -/
theorem State.tunedFor_spec {s : State} {x : TunerId} (h : s.inUse x = true) :
    ∃ start rank mux, s.carriesItem x start rank mux ∧
      (∀ a r m, s.carriesItem x a r m → a < start ∨ (a = start ∧ r ≤ rank)) ∧ s.tunedFor x = some mux := by
  obtain ⟨_, start, rank, mux, hitem⟩ := (s.inUse_iff x).mp h
  obtain ⟨c, l, hl⟩ := List.exists_cons_of_ne_nil (List.ne_nil_of_mem ((s.mem_carriedOn_iff x start rank mux).mpr hitem))
  obtain ⟨hmem, hmax⟩ := Carried.foldl_later_spec l c
  rw [← hl] at hmem hmax
  exact ⟨_, _, _, (s.mem_carriedOn_iff x _ _ _).mp hmem, fun a r m hm => hmax ⟨a, r, m⟩ ((s.mem_carriedOn_iff x a r m).mpr hm),
    by rw [State.tunedFor_eq, hl]; rfl⟩

/-! ## The rule evaluated (R142, R143, R148) -/

section
variable {s : State} {x : TunerId}

theorem State.evaluateUse_of_comes (hc : (s.tuner x).condition = .unused) (hu : s.inUse x = true) :
    s.evaluateUse x = s.comeIntoUse x := by
  simp [State.evaluateUse, hc, hu]

theorem State.evaluateUse_of_goes (hc : (s.tuner x).condition ≠ .unused) (hu : s.inUse x = false) :
    s.evaluateUse x = s.goOutOfUse x := by
  simp [State.evaluateUse, hc, hu]

theorem State.evaluateUse_of_same (h : (s.tuner x).condition = .unused ↔ s.inUse x = false) : s.evaluateUse x = s := by
  unfold State.evaluateUse
  cases hu : s.inUse x <;> simp_all

end

/-- The in-use rule changes the tuner it is evaluated for, or nothing. -/
theorem State.evaluateUse_cases (s : State) (x : TunerId) :
    s.evaluateUse x = s ∨ ∃ new cause, s.evaluateUse x = s.changeTuner x new cause := by
  unfold State.evaluateUse
  repeat' split
  · exact Or.inr ⟨_, _, rfl⟩
  · exact Or.inl rfl
  · exact Or.inl rfl
  · exact Or.inr ⟨_, _, rfl⟩

section
variable (s : State) (x : TunerId)

theorem State.evaluateUse_tuner_ne {y : TunerId} (h : y ≠ x) : (s.evaluateUse x).tuner y = s.tuner y := by
  rcases s.evaluateUse_cases x with hsame | ⟨new, cause, hchange⟩
  · rw [hsame]
  · rw [hchange, State.changeTuner_tuner_ne s x new cause h]

@[simp] theorem State.evaluateUse_live : (s.evaluateUse x).monitor.live = s.monitor.live := by
  rcases s.evaluateUse_cases x with hsame | ⟨new, cause, hchange⟩
  · rw [hsame]
  · rw [hchange, State.changeTuner_live]

@[simp] theorem State.evaluateUse_links : (s.evaluateUse x).links = s.links := by
  rcases s.evaluateUse_cases x with hsame | ⟨new, cause, hchange⟩
  · rw [hsame]
  · rw [hchange, State.changeTuner_links]

@[simp] theorem State.evaluateUse_pins : (s.evaluateUse x).pins = s.pins := by
  rcases s.evaluateUse_cases x with hsame | ⟨new, cause, hchange⟩
  · rw [hsame]
  · rw [hchange, State.changeTuner_pins]

end

/-- A tuner that carries nothing is Unused once the rule has been evaluated (R148). -/
theorem State.evaluateUse_unused {s : State} {x : TunerId} (hu : s.inUse x = false) :
    ((s.evaluateUse x).tuner x).condition = .unused := by
  by_cases hc : (s.tuner x).condition = .unused
  · rw [State.evaluateUse_of_same (by simp [hc, hu]), hc]
  · rw [State.evaluateUse_of_goes hc hu]
    unfold State.goOutOfUse
    rw [State.changeTuner_tuner_same]
    rfl

end Sys2Proof.Machine

end

section
/-! The live claim made, replaced and released (R148, R155, R156). -/

namespace Sys2Proof.Machine

/-! ## Requests read -/

/-- A request row whose body is read answers the state served by its owner. -/
theorem request_parsed {α : Type} {row : Instr} {f : Frame} {p : Parsed α} {x : α} {s : State} (owner : α → Owner)
    (hw : row.wellFormed = true) (ht : s.takes f) (hp : p = .ok x) :
    request row f (parsed p owner) s = .next ((s.taken f).serve f (owner x)) := by
  rw [hp]
  exact request_of_takes hw ht

/-- A LiveClaim that is read has a body of two bytes (R215). -/
theorem bodyFits_of_parseLiveClaim {body : List Byte} {z : Nat × TunerId} (hp : parseLiveClaim body = .ok z) :
    bodyFits body = true := by
  unfold parseLiveClaim at hp
  split at hp
  · rfl
  · cases hp

/-- Which frame is in service is no part of what a command makes of a state. -/
theorem State.becomes.of_inService {t u : State} {v : Serving} (h : t.becomes (u.inService v)) : t.becomes u := h

/-- The pass asked for is no part of it either. -/
theorem State.becomes.of_claimChanged {t u : State} (h : t.becomes u.liveClaimChanged) : t.becomes u := by
  unfold State.liveClaimChanged at h
  split at h <;> exact h

@[simp] theorem State.liveClaimChanged_inService (s : State) (v : Serving) :
    (s.inService v).liveClaimChanged = s.liveClaimChanged.inService v := by
  unfold State.liveClaimChanged
  rw [State.inService_planner]
  cases s.planner.running <;> rfl

@[simp] theorem State.liveClaimChanged_monitor (s : State) : s.liveClaimChanged.monitor = s.monitor := by
  unfold State.liveClaimChanged
  split <;> rfl

@[simp] theorem State.liveClaimChanged_book (s : State) : s.liveClaimChanged.book = s.book := by
  unfold State.liveClaimChanged
  split <;> rfl

@[simp] theorem State.liveClaimChanged_links (s : State) : s.liveClaimChanged.links = s.links := by
  unfold State.liveClaimChanged
  split <;> rfl

/-! ## Made and replaced (R155) -/

/-- LIVE_CLAIM is the request of its owner on the multiplex and the tuner read. -/
theorem exec_liveClaim {tag : Byte} {body : List Byte} {mux : Nat} {named : TunerId} {s : State}
    (hp : parseLiveClaim body = .ok (mux, named)) (ht : s.takes ⟨tag, 0x40, body⟩) :
    exec (.liveClaim tag body) s =
      .next ((s.taken ⟨tag, 0x40, body⟩).serve ⟨tag, 0x40, body⟩ fun u => u.liveClaim mux named) := by
  show request (.liveClaim tag body) ⟨tag, 0x40, body⟩ (parsed (parseLiveClaim body) fun z u => u.liveClaim z.1 z.2) s = _
  exact request_parsed (x := (mux, named)) _ (bodyFits_of_parseLiveClaim hp) ht hp

/-- The claim of a multiplex on a named tuner, with the placement held so far (R155). -/
def State.claimed (s : State) (mux : Nat) (named : TunerId) : State :=
  s.setMonitor { s.monitor with live := some ⟨mux, named, s.monitor.live.bind (·.placement)⟩ }

section
variable {s : State} {mux : Nat} {named : TunerId}

theorem State.liveClaim_of_free (hm : findMux s.catalogue.muxes mux = none) : s.liveClaim mux named = (s, .refuse .badField) := by
  simp [State.liveClaim, hm]

theorem State.liveClaim_of_same {c : LiveClaim} (hm : (findMux s.catalogue.muxes mux).isSome = true) (hc : s.monitor.live = some c)
    (h : c.mux = mux ∧ c.named = named) : s.liveClaim mux named = (s, .done .ok (.livePlacement c.placement)) := by
  simp [State.liveClaim, Option.ne_none_iff_isSome.mpr hm, hc, h]

theorem State.liveClaim_of_new (hm : (findMux s.catalogue.muxes mux).isSome = true)
    (h : ∀ c, s.monitor.live = some c → ¬ (c.mux = mux ∧ c.named = named)) :
    s.liveClaim mux named = ((s.claimed mux named).liveClaimChanged, .live) := by
  unfold State.liveClaim State.claimed
  rw [if_neg (by simp [Option.ne_none_iff_isSome.mpr hm])]
  cases hc : s.monitor.live with
  | none => rfl
  | some c => simp [h c hc]

/-- A claim made, or in place of another, waits for its pass (R155). -/
theorem State.serve_claims {f : Frame} (hm : (findMux s.catalogue.muxes mux).isSome = true)
    (h : ∀ c, s.monitor.live = some c → ¬ (c.mux = mux ∧ c.named = named)) :
    ((s.taken f).serve f fun u => u.liveClaim mux named).becomes (s.claimed mux named) ∧
      ((s.taken f).serve f fun u => u.liveClaim mux named).awaits .live := by
  obtain ⟨v, hv⟩ := s.taken_eq_inService f
  have howner : (s.inService v).liveClaim mux named = ((s.claimed mux named).liveClaimChanged.inService v, .live) := by
    rw [State.liveClaim_of_new (s := s.inService v) hm h, ← State.liveClaimChanged_inService]
    rfl
  have hasked : ((s.claimed mux named).liveClaimChanged.inService v).planner.triggered = true := State.liveClaimChanged_asked _
  rw [hv]
  refine ⟨?_, ?_⟩
  · have hbecomes := State.serve_becomes (s.inService v) f fun u => u.liveClaim mux named
    rw [howner] at hbecomes
    exact hbecomes.of_inService.of_claimChanged
  · obtain ⟨hphase, hcomes⟩ := State.serve_holds (s := s.inService v) (f := f) (owner := fun u => u.liveClaim mux named)
      (by rw [howner]; exact hasked) (by rw [howner]; rfl)
    rw [howner] at hphase
    exact ⟨⟨_, hphase⟩, hcomes⟩

end

/-! ## Released (R148, R156) -/

/-- LIVE_RELEASE is the request of its owner. -/
theorem exec_liveRelease {tag : Byte} {s : State} (ht : s.takes ⟨tag, 0x41, []⟩) :
    exec (.liveRelease tag []) s =
      .next ((s.taken ⟨tag, 0x41, []⟩).serve ⟨tag, 0x41, []⟩
        fun u => (u.releaseLive, .done .ok (.liveReleased u.monitor.live.isNone))) := by
  show request (.liveRelease tag []) ⟨tag, 0x41, []⟩ (parsed (parseEmpty []) fun _ u =>
    (u.releaseLive, .done .ok (.liveReleased u.monitor.live.isNone))) s = _
  exact request_parsed _ rfl ht rfl

/-- A tuner with no booking on it and no live claim carries nothing (R142). -/
theorem State.inUse_eq_false {s : State} {x : TunerId} (hn : s.monitor.live = none)
    (hb : ∀ p ∈ s.pins, p.1 = true → p.2.tuner? ≠ some x) : s.inUse x = false := by
  have hpinned : s.pinnedOn x = [] := by
    refine List.eq_nil_iff_forall_not_mem.mpr fun b hm => ?_
    obtain ⟨hmem, hp, ht⟩ := (s.mem_pinnedOn_iff x b).mp hm
    exact hb (b.pinned, b.placement) (List.mem_map_of_mem hmem) hp ht
  simp [State.inUse, hpinned, State.liveOn, hn]

/-- Without a live claim the in-use rule leaves a tuner with no booking on it Unused (R148). -/
theorem State.evaluateTuners_unused {s : State} {x : TunerId} (hn : s.monitor.live = none)
    (hb : ∀ p ∈ s.pins, p.1 = true → p.2.tuner? ≠ some x) : (s.evaluateTuners.tuner x).condition = .unused := by
  unfold State.evaluateTuners
  cases x with
  | a =>
    rw [State.evaluateUse_tuner_ne _ _ (by decide : TunerId.a ≠ .b)]
    exact State.evaluateUse_unused (State.inUse_eq_false hn hb)
  | b =>
    refine State.evaluateUse_unused (State.inUse_eq_false ((s.evaluateUse_live .a).trans hn) ?_)
    rwa [State.evaluateUse_pins]

theorem State.releaseLive_of_none {s : State} (h : s.monitor.live = none) : s.releaseLive = s := by
  unfold State.releaseLive
  rw [h]

/-- The state once the claim is gone, before the in-use rule (R156). -/
def State.unclaimed (s : State) : State := (s.setMonitor { s.monitor with live := none }).liveClaimChanged

theorem State.releaseLive_of_claim {s : State} (h : s.monitor.live ≠ none) : s.releaseLive = s.unclaimed.evaluateTuners := by
  obtain ⟨c, hc⟩ := Option.ne_none_iff_exists'.mp h
  unfold State.releaseLive
  rw [hc]
  rfl

theorem State.releaseLive_keeps (s : State) : s.releaseLive.monitor.live = none ∧ s.releaseLive.links = s.links := by
  by_cases h : s.monitor.live = none
  · rw [State.releaseLive_of_none h]
    exact ⟨h, rfl⟩
  · rw [State.releaseLive_of_claim h]
    simp [State.evaluateTuners, State.unclaimed]

/-- A release leaves Unused each tuner with no booking on it (R148, R156). -/
theorem State.releaseLive_unused {s : State} {x : TunerId} (h : s.monitor.live ≠ none)
    (hb : ∀ b ∈ s.book.records, b.pinned = true → b.placement.tuner? ≠ some x) : (s.releaseLive.tuner x).condition = .unused := by
  rw [State.releaseLive_of_claim h]
  refine State.evaluateTuners_unused (by simp [State.unclaimed]) fun p hp => ?_
  obtain ⟨b, hm, rfl⟩ := List.mem_map.mp hp
  rw [State.unclaimed, State.liveClaimChanged_book] at hm
  exact hb b hm

end Sys2Proof.Machine

open Sys2Proof Sys2Proof.Machine

/-- Settles O53: a claim is refused, the same (`State.serve_still`) or a new one (`State.serve_claims`); a release leaves the tuners to the
in-use rule (`State.releaseLive_unused`). -/
theorem liveClaimIsHeld : Obligations.LiveClaimIsHeld := by
  unfold Obligations.LiveClaimIsHeld
  refine ⟨fun tag body mux named s hp ht => ?claim, fun tag s ht => ?release⟩
  case claim =>
    have hcat := s.taken_catalogue ⟨tag, 0x40, body⟩
    have hmon := s.taken_monitor ⟨tag, 0x40, body⟩
    refine ⟨_, exec_liveClaim hp ht, fun hm => ?free,
      fun hm => ⟨fun hn => ?made, fun c hc hmux hnamed => ?same, fun c hc hne => ?replaced⟩⟩
    case free => exact State.serve_still ht (State.liveClaim_of_free (by rw [hcat, hm]))
    case made =>
      have hclaims := State.serve_claims (f := ⟨tag, 0x40, body⟩) (named := named) hm (by simp [hn])
      rw [State.claimed, hn] at hclaims
      exact hclaims
    case same =>
      exact State.serve_still ht (State.liveClaim_of_same (by rw [hcat, hm]) (by rw [hmon, hc]) ⟨hmux, hnamed⟩)
    case replaced =>
      have hclaims := State.serve_claims (f := ⟨tag, 0x40, body⟩) (mux := mux) (named := named) hm fun d hd => by
        obtain rfl := Option.some.inj (hc.symm.trans hd)
        exact fun h => hne.elim (fun h1 => h1 h.1) fun h2 => h2 h.2
      rw [State.claimed, hc] at hclaims
      exact hclaims
  case release =>
    have hmon := s.taken_monitor ⟨tag, 0x41, []⟩
    refine ⟨_, exec_liveRelease ht,
      State.serve_surrounds fun u => u.releaseLive_shell, ?live, ?links, fun hn => ?nothing, fun hl => ⟨?awaits, fun x hb => ?unused⟩⟩
    case live => rw [State.serve_monitor, (State.releaseLive_keeps _).1]
    case links => rw [State.serve_links, (State.releaseLive_keeps _).2, State.taken_links]
    case nothing =>
      refine State.serve_still ht ?_
      rw [State.releaseLive_of_none (hmon ▸ hn), hmon, hn]
      rfl
    case awaits =>
      refine State.serve_awaits ?_ ?_
      · rw [hmon]
        obtain ⟨c, hc⟩ := Option.ne_none_iff_exists'.mp hl
        rw [hc]
        rfl
      · show (s.taken ⟨tag, 0x41, []⟩).releaseLive.asked
        rw [State.releaseLive_of_claim (hmon ▸ hl)]
        exact State.evaluateTuners_asked (State.liveClaimChanged_asked _)
    case unused =>
      rw [State.serve_tuner]
      exact State.releaseLive_unused (hmon ▸ hl) (by rw [State.taken_book]; exact hb)

end

section
/-! Fault lines and latches: what a rise latches, begins and tells, and what ClearFault and QueryTuner clear (R149 to R154). -/

namespace Sys2Proof.Machine

/-! ## Lines -/

/-- An input line at a new level, out of reset. -/
theorem lineRow_of_fresh {fresh : Bool} {level act : State → State} {s : State} (hf : fresh = true) (hr : s.lines.resetn = true) :
    lineRow fresh level act s = .next (act (level s)).settle := by
  simp [lineRow, hf, hr]

/-- A fault line taken at a new level is a write to the lines. -/
theorem State.setFaultLine_eq (s : State) (x : TunerId) (level : Bool) : ∃ l, s.setFaultLine x level = s.setLines l := by
  cases x <;> exact ⟨_, rfl⟩

theorem State.setFaultLine_faultLine (s : State) (x : TunerId) (level : Bool) : (s.setFaultLine x level).faultLine x = level := by
  cases x <;> rfl

theorem State.faultLine_of_inputs {s t : State} (h : t.lines.inputs = s.lines.inputs) (x : TunerId) : t.faultLine x = s.faultLine x := by
  simp only [Lines.inputs, Prod.mk.injEq] at h
  obtain ⟨_, _, _, _, ha, hb, _⟩ := h
  cases x with
  | a => exact ha
  | b => exact hb

@[simp] theorem State.settle_tuner (s : State) (x : TunerId) : s.settle.tuner x = s.tuner x := State.tuner_of_monitor (by simp) x
@[simp] theorem State.trigger_tuner (s : State) (x : TunerId) : s.trigger.tuner x = s.tuner x := State.tuner_of_monitor rfl x

/-- FAULT_LINE_RISE of a low line, out of reset. -/
theorem exec_faultLineRise {x : TunerId} {s : State} (hr : s.lines.resetn = true) (hl : s.faultLine x = false) :
    exec (.faultLineRise x) s = .next ((s.setFaultLine x true).faultRises x).settle := by
  show lineRow (!s.faultLine x) (fun s => s.setFaultLine x true) (fun s => s.faultRises x) s = _
  exact lineRow_of_fresh (by rw [hl]; rfl) hr

/-- FAULT_LINE_FALL of a high line, out of reset. -/
theorem exec_faultLineFall {x : TunerId} {s : State} (hr : s.lines.resetn = true) (hl : s.faultLine x = true) :
    exec (.faultLineFall x) s = .next (s.setFaultLine x false).settle := by
  show lineRow (s.faultLine x) (fun s => s.setFaultLine x false) id s = _
  exact lineRow_of_fresh hl hr

/-! ## One latch set (R149) -/

/-- A TunerChange notice reads the clock and the settings alone. -/
theorem State.tellChange_of_shell {s t : State} (h : t.shell = s.shell) (x : TunerId) (u : Tuner) (cause : ChangeCause) (q : NoticeQueue) :
    t.tellChange x u cause q = s.tellChange x u cause q := by
  have htime : t.time = s.time := congrArg (·.1) h
  unfold State.tellChange
  rw [htime, State.link_of_outer (State.outer_of_shell h)]

/-- A tuner whose latch is newly set: an in-use one in Faulted with no count (R149). -/
def Tuner.struck (u : Tuner) : Tuner :=
  if u.condition = .unused then { u with faultLatch := true } else { u with faultLatch := true }.still .faulted

/-- A tuner once its latch is set; one whose latch stood keeps all its items (R149, R152). -/
def Tuner.latched (u : Tuner) : Tuner :=
  if u.faultLatch = true then u
  else if u.condition = .unused then { u with faultLatch := true, changeLatch := true }
  else ⟨.faulted, true, true, u.tuned, none, none, none⟩

theorem Tuner.latched_of_clear {u : Tuner} (h : u.faultLatch = false) : u.latched = { u.struck with changeLatch := true } := by
  unfold Tuner.latched Tuner.struck
  rw [if_neg (by simp [h])]
  split <;> rfl

/-- The notices once the latch of a tuner is set, which tells nothing where it stood (R149, R153). -/
def State.toldLatch (s : State) (x : TunerId) (q : NoticeQueue) : NoticeQueue :=
  if (s.tuner x).faultLatch = true then q else s.tellChange x (s.tuner x).latched .fault q

section
variable {s : State} {x : TunerId}

theorem State.setLatch_of_set (h : (s.tuner x).faultLatch = true) : s.setLatch x = s := by
  simp [State.setLatch, h]

theorem State.setLatch_of_clear (h : (s.tuner x).faultLatch = false) :
    s.setLatch x = (s.changeTuner x (s.tuner x).struck .fault).trigger := by
  unfold State.setLatch
  dsimp only
  rw [if_neg (by simp [h])]
  rfl

@[simp] theorem State.setLatch_tuner_same (s : State) (x : TunerId) : (s.setLatch x).tuner x = (s.tuner x).latched := by
  cases h : (s.tuner x).faultLatch with
  | true =>
    rw [State.setLatch_of_set h]
    simp [Tuner.latched, h]
  | false => rw [State.setLatch_of_clear h, State.trigger_tuner, State.changeTuner_tuner_same, Tuner.latched_of_clear h]

theorem State.setLatch_tuner_ne (s : State) {x y : TunerId} (hy : y ≠ x) : (s.setLatch x).tuner y = s.tuner y := by
  cases h : (s.tuner x).faultLatch with
  | true => rw [State.setLatch_of_set h]
  | false => rw [State.setLatch_of_clear h, State.trigger_tuner, State.changeTuner_tuner_ne s x _ _ hy]

theorem State.setLatch_notices (s : State) (x : TunerId) : (s.setLatch x).notices = s.toldLatch x s.notices := by
  unfold State.toldLatch
  cases h : (s.tuner x).faultLatch with
  | true => rw [State.setLatch_of_set h, if_pos rfl]
  | false =>
    rw [State.setLatch_of_clear h, if_neg Bool.false_ne_true, Tuner.latched_of_clear h]
    exact s.changeTuner_notices x _ .fault

/-- Setting a latch leaves the live claim, the links and the storage. -/
theorem State.setLatch_rest (s : State) (x : TunerId) :
    (s.setLatch x).monitor.live = s.monitor.live ∧ (s.setLatch x).links = s.links ∧ (s.setLatch x).storage = s.storage := by
  cases h : (s.tuner x).faultLatch with
  | true =>
    rw [State.setLatch_of_set h]
    exact ⟨rfl, rfl, rfl⟩
  | false =>
    rw [State.setLatch_of_clear h]
    exact ⟨s.changeTuner_live x _ _, s.changeTuner_links x _ _, s.changeTuner_storage x _ _⟩

/-- A latch newly set asks for a pass (R149). -/
theorem State.setLatch_asks (h : (s.tuner x).faultLatch = false) : (s.setLatch x).asked := by
  rw [State.setLatch_of_clear h]
  rfl

/-- A tuner in Tuning or Locked taken to Faulted begins the gaps on it (R134, R152). -/
theorem State.setLatch_begins (hs : s.tablesHold) (hl : (s.tuner x).faultLatch = false) (hc : (s.tuner x).condition ≠ .unused)
    (hg : (s.tuner x).condition.gapping = false) : (s.setLatch x).gapsBeginOn s x := by
  rw [State.setLatch_of_clear hl]
  refine State.changeTuner_begins hs x _ .fault hg ?_
  rw [Tuner.struck, if_neg hc]
  rfl

/-- A latch that stood, or one set on a tuner Unused, Lost or Faulted, begins no gap. -/
theorem State.setLatch_rests (h : (s.tuner x).faultLatch = true ∨ (s.tuner x).condition = .unused ∨
    (s.tuner x).condition.gapping = true) : (s.setLatch x).book = s.book ∧ (s.setLatch x).orders = s.orders := by
  cases hl : (s.tuner x).faultLatch with
  | true =>
    rw [State.setLatch_of_set hl]
    exact ⟨rfl, rfl⟩
  | false =>
    have hsame : (s.tuner x).struck.condition.gapping = (s.tuner x).condition.gapping := by
      unfold Tuner.struck
      rcases h with h | h | h
      · simp [hl] at h
      · rw [if_pos h]
      · rw [h]
        split
        · exact h
        · rfl
    rw [State.setLatch_of_clear hl, State.changeTuner_of_gapping_eq .fault hsame]
    exact ⟨s.writeTuner_book x _ .fault, s.writeTuner_orders x _ .fault⟩

/-- A booking that is not on the tuner, or in a gap, or whose tuner is Lost or Faulted, keeps its record and order. -/
theorem State.setLatch_keeps {b : Booking} (hs : s.tablesHold) (hb : s.booking? b.handle = some b)
    (h : b.placement.tuner? = some x → b.items.inGap = true ∨ (s.tuner x).condition.gapping = true) :
    (s.setLatch x).booking? b.handle = some b ∧ (s.setLatch x).orderOf b.handle = s.orderOf b.handle := by
  by_cases hrest : (s.tuner x).faultLatch = true ∨ (s.tuner x).condition = .unused ∨ (s.tuner x).condition.gapping = true
  · obtain ⟨hbook, horders⟩ := State.setLatch_rests hrest
    exact ⟨(State.booking_of_book hbook _).trans hb, State.orderOf_of_orders horders _⟩
  · simp only [not_or, Bool.not_eq_true] at hrest
    obtain ⟨hl, hc, hg⟩ := hrest
    obtain ⟨horders, hrecords⟩ := State.setLatch_begins hs hl hc hg
    refine ⟨(hrecords b hb).2 ?_, State.orderOf_of_orders horders _⟩
    rintro ⟨_, hon, hin⟩
    simpa [hin, hg] using h hon

end

/-! ## A fault line rises (R149) -/

theorem Condition.of_tuning_or_locked {c : Condition} (h : c = .tuning ∨ c = .locked) : c ≠ .unused ∧ c.gapping = false := by
  rcases h with rfl | rfl <;> exact ⟨by decide, rfl⟩

/-- A rise of the line of tuner x latches tuner y: its own, and in LoopThrough from A both (R149). -/
def State.riseHits (s : State) (x y : TunerId) : Prop := y = x ∨ (x = .a ∧ s.link.settings.feedMode = .loopThrough)

/-- A rise sets one latch, or in LoopThrough from A both, A's first (R149). -/
theorem State.faultRises_cases (s : State) (x : TunerId) :
    ((x = .a ∧ s.link.settings.feedMode = .loopThrough) ∧ s.faultRises x = (s.setLatch .a).setLatch .b) ∨
      (¬ (x = .a ∧ s.link.settings.feedMode = .loopThrough) ∧ s.faultRises x = s.setLatch x) := by
  have hset : (s.setLatch .a).settings = s.link.settings :=
    congrArg (·.settings) (State.link_of_outer (s.setLatch_outer .a))
  cases x with
  | a =>
    by_cases hm : s.link.settings.feedMode = .loopThrough
    · exact Or.inl ⟨⟨rfl, hm⟩, by simp [State.faultRises, hset, hm]⟩
    · exact Or.inr ⟨fun h => hm h.2, by simp [State.faultRises, hset, hm]⟩
  | b => exact Or.inr ⟨fun h => absurd h.1 (by decide), rfl⟩

theorem State.riseHits_of_not_both {s : State} {x y : TunerId} (hn : ¬ (x = .a ∧ s.link.settings.feedMode = .loopThrough))
    (h : s.riseHits x y) : y = x := h.resolve_right hn

section
variable {s : State} {x y : TunerId}

theorem State.faultRises_tuner_hit (h : s.riseHits x y) : (s.faultRises x).tuner y = (s.tuner y).latched := by
  rcases s.faultRises_cases x with ⟨_, heq⟩ | ⟨hn, heq⟩
  · rw [heq]
    cases y with
    | a => rw [State.setLatch_tuner_ne _ (by decide), State.setLatch_tuner_same]
    | b => rw [State.setLatch_tuner_same, State.setLatch_tuner_ne _ (by decide)]
  · obtain rfl := State.riseHits_of_not_both hn h
    rw [heq, State.setLatch_tuner_same]

theorem State.faultRises_tuner_miss (h : ¬ s.riseHits x y) : (s.faultRises x).tuner y = s.tuner y := by
  rcases s.faultRises_cases x with ⟨hboth, _⟩ | ⟨_, heq⟩
  · exact absurd (Or.inr hboth) h
  · rw [heq, State.setLatch_tuner_ne s fun hy => h (Or.inl hy)]

/-- A's notice comes before B's (R149, R153). -/
theorem State.faultRises_notices (s : State) (x : TunerId) :
    (x = .a ∧ s.link.settings.feedMode = .loopThrough →
      (s.faultRises x).notices = s.toldLatch .b (s.toldLatch .a s.notices)) ∧
    (¬ (x = .a ∧ s.link.settings.feedMode = .loopThrough) → (s.faultRises x).notices = s.toldLatch x s.notices) := by
  rcases s.faultRises_cases x with ⟨hboth, heq⟩ | ⟨hn, heq⟩
  · refine ⟨fun _ => ?_, fun hn => absurd hboth hn⟩
    rw [heq, State.setLatch_notices, State.setLatch_notices]
    unfold State.toldLatch
    rw [State.setLatch_tuner_ne s (by decide : TunerId.b ≠ .a), State.tellChange_of_shell (s.setLatch_shell .a)]
  · exact ⟨fun hboth => absurd hboth hn, fun _ => by rw [heq, State.setLatch_notices]⟩

theorem State.faultRises_rest (s : State) (x : TunerId) :
    (s.faultRises x).monitor.live = s.monitor.live ∧ (s.faultRises x).links = s.links ∧ (s.faultRises x).storage = s.storage := by
  rcases s.faultRises_cases x with ⟨_, heq⟩ | ⟨_, heq⟩
  · obtain ⟨alive, alinks, astorage⟩ := s.setLatch_rest .a
    obtain ⟨blive, blinks, bstorage⟩ := (s.setLatch .a).setLatch_rest .b
    rw [heq]
    exact ⟨blive.trans alive, blinks.trans alinks, bstorage.trans astorage⟩
  · rw [heq]
    exact s.setLatch_rest x

theorem State.faultRises_asks (h : s.riseHits x y) (hl : (s.tuner y).faultLatch = false) : (s.faultRises x).asked := by
  rcases s.faultRises_cases x with ⟨_, heq⟩ | ⟨hn, heq⟩
  · rw [heq]
    cases y with
    | a => exact State.setLatch_asked (State.setLatch_asks hl) .b
    | b => exact State.setLatch_asks (by rw [State.setLatch_tuner_ne s (by decide), hl])
  · obtain rfl := State.riseHits_of_not_both hn h
    rw [heq]
    exact State.setLatch_asks hl

/-- A booking Recording, in no gap, on a tuner that the rise takes from Tuning or Locked to Faulted is in a gap (R134, R152). -/
theorem State.faultRises_begins {b : Booking} (hs : s.tablesHold) (h : s.riseHits x y) (hl : (s.tuner y).faultLatch = false)
    (hc : (s.tuner y).condition ≠ .unused) (hg : (s.tuner y).condition.gapping = false) (hb : s.booking? b.handle = some b)
    (hon : b.state = .recording ∧ b.placement.tuner? = some y ∧ b.items.inGap = false) :
    (s.faultRises x).booking? b.handle = some (b.gapBegun s.settings.gapLimit) := by
  rcases s.faultRises_cases x with ⟨_, heq⟩ | ⟨hn, heq⟩
  · rw [heq]
    cases y with
    | a =>
      have hbegun := ((State.setLatch_begins hs hl hc hg).2 b hb).1 hon
      exact (State.setLatch_keeps (b := b.gapBegun s.settings.gapLimit) (State.setLatch_tables hs .a) hbegun
        fun _ => Or.inl rfl).1
    | b =>
      have hsame : (s.setLatch .a).tuner .b = s.tuner .b := State.setLatch_tuner_ne s (by decide)
      have hkept := (State.setLatch_keeps (x := .a) hs hb fun ha => absurd (hon.2.1.symm.trans ha) (by decide)).1
      have hset : (s.setLatch .a).settings = s.settings :=
        congrArg (·.settings) (State.link_of_outer (s.setLatch_outer .a))
      rw [← hset]
      exact ((State.setLatch_begins (State.setLatch_tables hs .a) (hsame ▸ hl) (hsame ▸ hc) (hsame ▸ hg)).2 b hkept).1 hon
  · obtain rfl := State.riseHits_of_not_both hn h
    rw [heq]
    exact ((State.setLatch_begins hs hl hc hg).2 b hb).1 hon

/-- A booking in a gap, or on a tuner that is Lost, keeps its record and order through the rise (R134). -/
theorem State.faultRises_keeps {b : Booking} (x : TunerId) (hs : s.tablesHold) (hb : s.booking? b.handle = some b)
    (hon : b.placement.tuner? = some y) (h : (s.tuner y).condition = .lost ∨ b.items.inGap = true) :
    (s.faultRises x).booking? b.handle = some b ∧ (s.faultRises x).orderOf b.handle = s.orderOf b.handle := by
  have keeps : ∀ z, b.placement.tuner? = some z → b.items.inGap = true ∨ (s.tuner z).condition.gapping = true := by
    intro z hz
    obtain rfl := Option.some.inj (hon.symm.trans hz)
    exact h.symm.imp_right fun hlost => by rw [hlost]; rfl
  rcases s.faultRises_cases x with ⟨_, heq⟩ | ⟨_, heq⟩
  · obtain ⟨hrec, horder⟩ := State.setLatch_keeps hs hb (keeps .a)
    obtain ⟨hrec', horder'⟩ := State.setLatch_keeps (x := .b) (State.setLatch_tables hs .a) hrec fun hz => by
      rw [State.setLatch_tuner_ne s (by decide)]
      exact keeps .b hz
    rw [heq]
    exact ⟨hrec', horder'.trans horder⟩
  · rw [heq]
    exact State.setLatch_keeps hs hb (keeps x)

end

/-! ## A latch cleared (R151) -/

/-- A ClearFault that is read has a body of one byte (R215). -/
theorem bodyFits_of_parseClearFault {body : List Byte} {x : TunerId} (hp : parseClearFault body = .ok x) : bodyFits body = true := by
  unfold parseClearFault at hp
  split at hp
  · rfl
  · cases hp

/-- CLEAR_FAULT is the request of its owner on the tuner read. -/
theorem exec_clearFault {tag : Byte} {body : List Byte} {x : TunerId} {s : State} (hp : parseClearFault body = .ok x)
    (ht : s.takes ⟨tag, 0x42, body⟩) :
    exec (.clearFault tag body) s = .next ((s.taken ⟨tag, 0x42, body⟩).serve ⟨tag, 0x42, body⟩ fun u => u.clearFault x) := by
  show request (.clearFault tag body) ⟨tag, 0x42, body⟩ (parsed (parseClearFault body) fun x u => u.clearFault x) s = _
  exact request_parsed _ (bodyFits_of_parseClearFault hp) ht hp

theorem State.latchHeld_iff (s : State) (x : TunerId) :
    s.latchHeld x = true ↔
      s.faultLine x = true ∨ (x = .b ∧ s.link.settings.feedMode = .loopThrough ∧ s.lines.faultA = true) := by
  cases x <;> simp [State.latchHeld, State.faultLine, State.settings]

theorem State.inService_latchHeld (s : State) (v : Serving) (x : TunerId) : (s.inService v).latchHeld x = s.latchHeld x := by
  cases x <;> rfl

/-- A tuner whose latch is cleared: from Faulted it is Tuning with a new grace count (R151). -/
def Tuner.unlatched (u : Tuner) : Tuner :=
  if u.condition = .faulted then { u with faultLatch := false }.tuning else { u with faultLatch := false }

theorem Tuner.unlatched_written (u : Tuner) :
    ({ u.unlatched with changeLatch := true } : Tuner) =
      if u.condition = .faulted then ⟨.tuning, false, true, u.tuned, some 0, none, none⟩
      else { u with faultLatch := false, changeLatch := true } := by
  unfold Tuner.unlatched
  split <;> rfl

/-- The latch of a tuner cleared, and a pass asked for (R151). -/
def State.clearLatch (s : State) (x : TunerId) : State := (s.changeTuner x (s.tuner x).unlatched .clear).trigger

section
variable {s : State} {x : TunerId}

theorem State.clearFault_of_held (h : s.latchHeld x = true) : s.clearFault x = (s, .refuse .stateMismatch) := by
  simp [State.clearFault, h]

theorem State.clearFault_of_clear (h : s.latchHeld x = false) (hl : (s.tuner x).faultLatch = false) :
    s.clearFault x = (s, .done .ok (.faultCleared (s.tuner x).condition false)) := by
  simp [State.clearFault, State.faultReply, h, hl]

@[simp] theorem State.clearLatch_tuner_same (s : State) (x : TunerId) :
    (s.clearLatch x).tuner x = { (s.tuner x).unlatched with changeLatch := true } := by
  rw [State.clearLatch, State.trigger_tuner, State.changeTuner_tuner_same]

theorem State.clearLatch_tuner_ne (s : State) {x y : TunerId} (h : y ≠ x) : (s.clearLatch x).tuner y = s.tuner y := by
  rw [State.clearLatch, State.trigger_tuner, State.changeTuner_tuner_ne s x _ _ h]

theorem State.clearLatch_notices (s : State) (x : TunerId) :
    (s.clearLatch x).notices = s.tellChange x ((s.clearLatch x).tuner x) .clear s.notices :=
  s.changeTuner_told x _ .clear

theorem State.clearFault_of_latched (h : s.latchHeld x = false) (hl : (s.tuner x).faultLatch = true) :
    s.clearFault x = (s.clearLatch x, .done .ok (.faultCleared ((s.clearLatch x).tuner x).condition false)) := by
  have hlatch : ((s.clearLatch x).tuner x).faultLatch = false := by
    rw [State.clearLatch_tuner_same, Tuner.unlatched_written]
    split <;> rfl
  have hreply : (s.clearLatch x).faultReply x = .done .ok (.faultCleared ((s.clearLatch x).tuner x).condition false) := by
    rw [State.faultReply, hlatch]
  rw [← hreply]
  unfold State.clearFault
  rw [if_neg (by simp [h]), if_pos hl]
  rfl

/-- A Faulted tuner cleared ends the gaps on it (R134, R136, R152). -/
theorem State.clearLatch_ends (hs : s.tablesHold) (hc : (s.tuner x).condition = .faulted) : (s.clearLatch x).gapsEndOn s x := by
  refine State.changeTuner_ends hs x _ .clear (by rw [hc]; rfl) ?_
  rw [Tuner.unlatched, if_pos hc]
  rfl

/-- A tuner cleared in another condition changes no record and no order. -/
theorem State.clearLatch_rests (hc : (s.tuner x).condition ≠ .faulted) :
    (s.clearLatch x).book = s.book ∧ (s.clearLatch x).orders = s.orders := by
  have hsame : (s.tuner x).unlatched.condition.gapping = (s.tuner x).condition.gapping := by rw [Tuner.unlatched, if_neg hc]
  rw [State.clearLatch, State.changeTuner_of_gapping_eq .clear hsame]
  exact ⟨s.writeTuner_book x _ .clear, s.writeTuner_orders x _ .clear⟩

end

/-- gapsEndOn reads the records and the orders before and after. -/
theorem State.gapsEndOn.congr {t u s r : State} {x : TunerId} (g : t.gapsEndOn s x) (hbook : u.book = t.book)
    (horders : u.orders = t.orders) (hbook' : r.book = s.book) (horders' : r.orders = s.orders) : u.gapsEndOn r x := by
  intro b hb
  have hrec := State.booking_of_book hbook b.handle
  have horder := State.orderOf_of_orders horders b.handle
  have horder' := State.orderOf_of_orders horders' b.handle
  obtain ⟨hends, hrests⟩ := g b ((State.booking_of_book hbook' _).symm.trans hb)
  exact ⟨fun h => (hends h).congr hrec horder horder'.symm,
    fun h => ⟨hrec.trans (hrests h).1, (horder.trans (hrests h).2).trans horder'.symm⟩⟩

/-! ## The tuners read (R154) -/

/-- QUERY_TUNER is the request of its owner. -/
theorem exec_queryTuner {tag : Byte} {s : State} (ht : s.takes ⟨tag, 0x43, []⟩) :
    exec (.queryTuner tag []) s = .next ((s.taken ⟨tag, 0x43, []⟩).serve ⟨tag, 0x43, []⟩
      fun u => (u.clearChanges, .done .ok (.tuners (u.view .a) (u.view .b) u.monitor.live))) := by
  show request (.queryTuner tag []) ⟨tag, 0x43, []⟩ (parsed (parseEmpty []) fun _ u =>
    (u.clearChanges, .done .ok (.tuners (u.view .a) (u.view .b) u.monitor.live))) s = _
  exact request_parsed _ rfl ht rfl

end Sys2Proof.Machine

open Sys2Proof Sys2Proof.Machine

/-- Settles O54: a rise sets the latches it hits one after the other (`State.faultRises_cases`), ClearFault is refused, has nothing to clear, or
clears (`State.clearLatch`), and QueryTuner writes the change latches alone. -/
theorem faultsLatch : Obligations.FaultsLatch := by
  unfold Obligations.FaultsLatch
  refine ⟨fun x s hr hlow => ?rise, fun x s hr hidle hhigh => ?fall, fun tag body x s hp ht => ?clear, fun tag s ht => ?query⟩
  case rise =>
    obtain ⟨l, hl⟩ := s.setFaultLine_eq x true
    have hshell := (s.setLines l).faultRises_shell x
    have htime : ((s.setLines l).faultRises x).time = s.time := congrArg (·.1) hshell
    have hcat : ((s.setLines l).faultRises x).catalogue = s.catalogue := congrArg (·.2.1) hshell
    have hguide : ((s.setLines l).faultRises x).guide = s.guide := congrArg (·.2.2.1) hshell
    have hline : ((s.setFaultLine x true).faultRises x).settle.faultLine x = true :=
      (State.faultLine_of_inputs ((State.settle_inputs _).trans (congrArg Lines.inputs
        (State.lines_of_outer (State.faultRises_outer _ x)))) x).trans (s.setFaultLine_faultLine x true)
    refine ⟨_, exec_faultLineRise hr hlow, hline, ?_⟩
    rw [hl]
    obtain ⟨hlive, hlinks, hstorage⟩ := (s.setLines l).faultRises_rest x
    obtain ⟨hboth, hone⟩ := (s.setLines l).faultRises_notices x
    refine ⟨⟨fun y hy => ?hit, fun y hy => ?miss, ?live, fun h => ?both, fun h => ?one, fun y hy hlatch => ?comes,
      fun hs y b hy hlatch hc hb hst hon hin => ?begins, fun hs y b hy hb hst hon h => ?keeps⟩,
      (State.settle_time _).trans htime, (State.settle_catalogue _).trans hcat,
      (State.settle_guide _).trans hguide, (State.settle_links _).trans hlinks, (State.settle_storage _).trans hstorage⟩
    case hit => rw [State.settle_tuner]; exact State.faultRises_tuner_hit (s := s.setLines l) hy
    case miss => rw [State.settle_tuner]; exact State.faultRises_tuner_miss (s := s.setLines l) hy
    case live => rw [State.settle_monitor, hlive]; rfl
    case both => rw [State.settle_notices, hboth h]; rfl
    case one => rw [State.settle_notices, hone h]; rfl
    case comes => exact (State.faultRises_asks (s := s.setLines l) hy hlatch).comes
    case begins =>
      obtain ⟨hused, hgap⟩ := Condition.of_tuning_or_locked hc
      refine ⟨b.gapBegun s.link.settings.gapLimit, ?_, hst, rfl, rfl, rfl, rfl⟩
      rw [State.settle_booking]
      exact State.faultRises_begins (s := s.setLines l) hs hy hlatch hused hgap hb ⟨hst, hon, hin⟩
    case keeps =>
      rw [State.settle_booking, State.settle_orderOf]
      exact State.faultRises_keeps (s := s.setLines l) x hs hb hon h
  case fall =>
    obtain ⟨l, hl⟩ := s.setFaultLine_eq x false
    refine ⟨_, exec_faultLineFall hr hhigh, ?_, ?_, ?_⟩
    · rw [State.faultLine_of_inputs (State.settle_inputs _), State.setFaultLine_faultLine]
    · rw [State.settle_core, hl, State.setLines_core]
    · rw [hl]
      exact State.settle_planner_idle (s := s.setLines l) hidle
  case clear =>
    obtain ⟨v, hv⟩ := s.taken_eq_inService ⟨tag, 0x42, body⟩
    have hheld : (s.inService v).latchHeld x = true ↔
        s.faultLine x = true ∨ (x = .b ∧ s.link.settings.feedMode = .loopThrough ∧ s.lines.faultA = true) := by
      rw [State.inService_latchHeld, State.latchHeld_iff]
    refine ⟨_, exec_clearFault hp ht, State.serve_surrounds fun u => u.clearFault_shell x, fun h => ?held, fun h hl => ?clear,
      fun h hl => ?latched⟩
    case held => exact State.serve_still ht (by rw [hv]; exact State.clearFault_of_held (hheld.mpr h))
    case clear =>
      have hopen := Bool.eq_false_iff.mpr (mt hheld.mp h)
      refine State.serve_still ht ?_
      rw [hv, State.clearFault_of_clear hopen (by rw [State.inService_tuner, hl]), State.inService_tuner]
    case latched =>
      have hopen := Bool.eq_false_iff.mpr (mt hheld.mp h)
      have howner := State.clearFault_of_latched hopen ((congrArg _ (s.inService_tuner v x)).trans hl)
      have hstate := congrArg Prod.fst howner
      rw [hv]
      have htuner : ∀ y, ((s.inService v).serve ⟨tag, 0x42, body⟩ fun u => u.clearFault x).tuner y =
          ((s.inService v).clearLatch x).tuner y := fun y => by rw [State.serve_tuner, hstate]
      refine ⟨?tuner, ?other, ?notices, ?awaits, fun hs hc => ?ends, fun hc => ?rests⟩
      case tuner => rw [htuner, State.clearLatch_tuner_same, State.inService_tuner, Tuner.unlatched_written]
      case other => rw [htuner, State.clearLatch_tuner_ne _ (otherTuner_ne x), State.inService_tuner]
      case notices => rw [State.serve_notices, hstate, htuner, State.clearLatch_notices]; rfl
      case awaits =>
        rw [htuner]
        exact State.serve_awaits (congrArg Prod.snd howner) (by rw [hstate]; rfl)
      case ends =>
        have hends := State.clearLatch_ends (s := s.inService v) (x := x) hs (by rw [State.inService_tuner, hc])
        exact hends.congr (by rw [State.serve_book, hstate]) (by rw [State.serve_orders, hstate]) rfl rfl
      case rests =>
        rw [State.serve_book, State.serve_orders, hstate]
        exact State.clearLatch_rests (s := s.inService v) (x := x) (by rwa [State.inService_tuner])
  case query =>
    obtain ⟨v, hv⟩ := s.taken_eq_inService ⟨tag, 0x43, []⟩
    refine ⟨_, exec_queryTuner ht, ?_⟩
    rw [hv]
    refine ⟨State.serve_planner ht.2.1, (State.serve_becomes _ _ _).of_inService (u := s.clearChanges), State.serve_sends ht.2.1⟩

end

section
/-! Lock lines, the grace, loss and regain counts, and the tuners that come into use and go out of it (R142 to R148, R152, R153). -/

namespace Sys2Proof.Machine

/-! ## A tuner changed (R134, R152) -/

/-- A tuner that enters a condition in which no count runs (R144 to R146). -/
theorem State.changeTuner_still (s : State) (x : TunerId) (c : Condition) (cause : ChangeCause) :
    (s.changeTuner x ((s.tuner x).still c) cause).tuner x =
      ⟨c, (s.tuner x).faultLatch, true, (s.tuner x).tuned, none, none, none⟩ := by
  rw [State.changeTuner_tuner_same]
  rfl

/-- A booking Recording on a tuner whose gaps have ended is in none, and has as many gaps as before (R134). -/
theorem State.gapsEndOn.booking {t s : State} {x : TunerId} {b : Booking} (g : t.gapsEndOn s x) (hb : s.booking? b.handle = some b)
    (hst : b.state = .recording) (hon : b.placement.tuner? = some x) :
    ∃ c, t.booking? b.handle = some c ∧ c.items.inGap = false ∧ c.gapCount = b.gapCount ∧ c.state = .recording := by
  obtain ⟨hends, hrests⟩ := g b hb
  cases hin : b.items.inGap with
  | false => exact ⟨b, (hrests (by simp [hin])).1, hin, rfl, hst⟩
  | true =>
    obtain ⟨hmove, hno⟩ := hends ⟨hst, hon, hin⟩
    by_cases hw : ∃ o, s.orderOf b.handle = some o ∧ o.kind = .move ∧ o.delivered = false
    · obtain ⟨_, n, hc⟩ := hmove hw
      exact ⟨_, hc, rfl, rfl, hst⟩
    · obtain ⟨_, n, hc⟩ := hno hw
      exact ⟨_, hc, rfl, rfl, hst⟩

/-! ## Into use and out of it (R142, R143, R147, R148) -/

section
variable {s : State} {x : TunerId}

/-- A tuner comes into use Tuning with a new grace count or, its latch set, Faulted (R143). -/
theorem State.comeIntoUse_tuner {mux : Nat} (h : s.tunedFor x = some mux) :
    (s.comeIntoUse x).tuner x = if (s.tuner x).faultLatch = true then ⟨.faulted, true, true, some mux, none, none, none⟩
      else ⟨.tuning, false, true, some mux, some 0, none, none⟩ := by
  unfold State.comeIntoUse
  dsimp only
  rw [State.changeTuner_tuner_same, h]
  cases (s.tuner x).faultLatch <;> simp [Tuner.still, Tuner.tuning]

theorem State.goOutOfUse_tuner (s : State) (x : TunerId) :
    (s.goOutOfUse x).tuner x = ⟨.unused, (s.tuner x).faultLatch, true, none, none, none, none⟩ := by
  unfold State.goOutOfUse
  rw [State.changeTuner_tuner_same]
  rfl

/-- A tuner Lost or Faulted that goes out of use ends the gaps on it (R134, R152). -/
theorem State.goOutOfUse_ends (hs : s.tablesHold) (hc : (s.tuner x).condition.gapping = true) : (s.goOutOfUse x).gapsEndOn s x :=
  State.changeTuner_ends hs x _ .release hc rfl

/-- A Lost tuner in use that retunes ends the gaps on it (R147, R152). -/
theorem State.arrive_ends {mux : Nat} (hs : s.tablesHold) (hc : (s.tuner x).condition = .lost) (hu : s.inUse x = true)
    (hm : (s.tuner x).tuned ≠ some mux) : (s.arrive x mux).gapsEndOn s x := by
  have heq : s.arrive x mux = s.changeTuner x { (s.tuner x).tuning with tuned := some mux } .retune := by
    simp [State.arrive, hc, hu, hm]
  rw [heq]
  exact State.changeTuner_ends hs x _ .retune (by rw [hc]; rfl) rfl

end

/-! ## Counts (R144 to R146) -/

section
variable {s : State} {x : TunerId} {n : Nat}

theorem State.graceDue_of_count (hc : (s.tuner x).condition = .tuning) (hg : (s.tuner x).grace = some n) (hn : 10 ≤ n) :
    s.graceDue x = true := by
  simp [State.graceDue, hc, hg, Config.graceSeconds, hn]

theorem State.completeGrace_of_high (hl : s.lockLine x = true) :
    s.completeGrace x = s.changeTuner x ((s.tuner x).still .locked) .grace := by
  simp [State.completeGrace, hl]

theorem State.completeGrace_of_low (hl : s.lockLine x = false) :
    s.completeGrace x = s.setTuner x { s.tuner x with grace := none, loss := some ⟨0, false⟩ } := by
  simp [State.completeGrace, hl, Count.zero]

theorem State.completeGrace_tuner_ne {y : TunerId} (h : y ≠ x) : (s.completeGrace x).tuner y = s.tuner y := by
  unfold State.completeGrace
  split
  · rw [State.changeTuner_tuner_ne s x _ _ h]
  · rw [State.setTuner_tuner_ne s h]

theorem State.lossRuns_of_complete {k : Count}
    (hc : (s.tuner x).condition = .locked ∨ ((s.tuner x).condition = .tuning ∧ (s.tuner x).grace = none))
    (hl : s.lockLine x = false) (hk : (s.tuner x).loss = some k) (hdone : k.complete = true) :
    s.lossRuns x (·.complete) = true := by
  rcases hc with hc | ⟨hc, hg⟩
  · simp [State.lossRuns, hc, hl, hk, hdone]
  · simp [State.lossRuns, hc, hg, hl, hk, hdone]

theorem State.losesSignal_begins (hs : s.tablesHold) (hc : (s.tuner x).condition = .locked ∨ (s.tuner x).condition = .tuning) :
    (s.losesSignal x).gapsBeginOn s x :=
  State.changeTuner_begins hs x _ .loss (Condition.of_tuning_or_locked hc.symm).2 rfl

theorem State.regainDue_of_count (hc : (s.tuner x).condition = .lost) (hl : s.lockLine x = true) (hr : (s.tuner x).regain = some n)
    (hn : 1 ≤ n) : s.regainDue x = true := by
  simp [State.regainDue, hc, hl, hr, hn]

end

/-! ## The lock line (R144 to R146) -/

theorem State.setLockLine_eq (s : State) (x : TunerId) (level : Bool) : ∃ l, s.setLockLine x level = s.setLines l := by
  cases x <;> exact ⟨_, rfl⟩

theorem State.setLockLine_lockLine (s : State) (x : TunerId) (level : Bool) : (s.setLockLine x level).lockLine x = level := by
  cases x <;> rfl

theorem State.lockLine_of_inputs {s t : State} (h : t.lines.inputs = s.lines.inputs) (x : TunerId) : t.lockLine x = s.lockLine x := by
  simp only [Lines.inputs, Prod.mk.injEq] at h
  obtain ⟨_, _, ha, hb, _⟩ := h
  cases x with
  | a => exact ha
  | b => exact hb

/-- LOCK_RISE of a low line, out of reset. -/
theorem exec_lockRise {x : TunerId} {s : State} (hr : s.lines.resetn = true) (hl : s.lockLine x = false) :
    exec (.lockRise x) s = .next ((s.setLockLine x true).lockRises x).settle := by
  show lineRow (!s.lockLine x) (fun s => s.setLockLine x true) (fun s => s.lockRises x) s = _
  exact lineRow_of_fresh (by rw [hl]; rfl) hr

/-- LOCK_FALL of a high line, out of reset. -/
theorem exec_lockFall {x : TunerId} {s : State} (hr : s.lines.resetn = true) (hl : s.lockLine x = true) :
    exec (.lockFall x) s = .next ((s.setLockLine x false).lockFalls x).settle := by
  show lineRow (s.lockLine x) (fun s => s.setLockLine x false) (fun s => s.lockFalls x) s = _
  exact lineRow_of_fresh hl hr

@[simp] theorem State.setLines_tuner (s : State) (l : Lines) (x : TunerId) : (s.setLines l).tuner x = s.tuner x :=
  State.tuner_of_monitor rfl x

@[simp] theorem State.setTuner_self (s : State) (x : TunerId) : s.setTuner x (s.tuner x) = s := by
  cases x <;> rfl

/-- A tuner whose lock line has risen, where its condition stands (R145, R146). -/
def Tuner.risen (u : Tuner) : Tuner :=
  match u.condition with
  | .locked => { u with loss := none }
  | .lost => { u with regain := some 0 }
  | _ => u

/-- A tuner whose lock line has fallen (R145, R146). -/
def Tuner.fallen (u : Tuner) : Tuner :=
  match u.condition with
  | .locked => { u with loss := some ⟨0, false⟩ }
  | .lost => { u with regain := none }
  | _ => u

theorem Tuner.fallen_of_other {u : Tuner} (h : u.condition ≠ .locked) (h' : u.condition ≠ .lost) : u.fallen = u := by
  unfold Tuner.fallen
  cases hc : u.condition <;> simp_all

/-- A rise in Tuning past the grace count locks (R144). -/
theorem State.lockRises_locks {s : State} {x : TunerId} (h : (s.tuner x).condition = .tuning ∧ (s.tuner x).grace = none) :
    s.lockRises x = s.writeTuner x ((s.tuner x).still .locked) .grace := by
  have hsame : ((s.tuner x).still .locked).condition.gapping = (s.tuner x).condition.gapping := by rw [h.1]; rfl
  rw [← State.changeTuner_of_gapping_eq .grace hsame]
  simp [State.lockRises, h]

/-- Any other rise writes the counts alone (R145, R146). -/
theorem State.lockRises_counts {s : State} {x : TunerId} (h : ¬ ((s.tuner x).condition = .tuning ∧ (s.tuner x).grace = none)) :
    s.lockRises x = s.setTuner x (s.tuner x).risen := by
  unfold State.lockRises Tuner.risen
  cases hc : (s.tuner x).condition with
  | tuning =>
    obtain ⟨n, hn⟩ := Option.ne_none_iff_exists'.mp fun hg => h ⟨hc, hg⟩
    simp [hc, hn]
  | _ => simp [hc]

theorem State.lockFalls_counts (s : State) (x : TunerId) : s.lockFalls x = s.setTuner x (s.tuner x).fallen := by
  unfold State.lockFalls Tuner.fallen
  cases hc : (s.tuner x).condition <;> simp [hc, Count.zero]

/-- A rise leaves the clock, the catalogue, the guide, the links, the Wake Unit and the other tuner. -/
theorem State.lockRises_rest (s : State) (x : TunerId) :
    (s.lockRises x).shell = s.shell ∧ (s.lockRises x).links = s.links ∧ (s.lockRises x).wake = s.wake ∧
      (s.lockRises x).tuner (otherTuner x) = s.tuner (otherTuner x) := by
  by_cases h : (s.tuner x).condition = .tuning ∧ (s.tuner x).grace = none
  · rw [State.lockRises_locks h]
    refine ⟨(State.offer_shell _ _).trans (s.setTuner_shell x _), s.setTuner_links x _, s.setTuner_wake x _, ?_⟩
    exact s.setTuner_tuner_ne (otherTuner_ne x) _
  · rw [State.lockRises_counts h]
    exact ⟨s.setTuner_shell x _, s.setTuner_links x _, s.setTuner_wake x _, s.setTuner_tuner_ne (otherTuner_ne x) _⟩

end Sys2Proof.Machine

open Sys2Proof Sys2Proof.Machine

/-- Settles O55: the in-use rule by whether the tuner carries an item (`State.inUse_iff`, `State.tunedFor_spec`); each count and each edge of
the lock line by what it makes of its tuner. -/
theorem tunersAreWatched : Obligations.TunersAreWatched := by
  unfold Obligations.TunersAreWatched
  refine ⟨fun x s => ?use, fun x s hr hs => ⟨fun n hc hg hn => ?grace, fun n hc hl hn hdone => ?loss, fun n hc hl hrun hn => ?regain,
    fun hl => ?rise, fun hl => ?fall⟩⟩
  case use =>
    have hused := s.inUse_iff x
    refine ⟨fun hc hu => ?comes, fun hc hn => ?goes, fun h => ?same, s.evaluateUse_tuner_ne x (otherTuner_ne x), s.evaluateUse_live x,
      fun hs hc hn => ?ends, fun mux hs hc hu hm => ?retunes, rfl⟩
    case comes =>
      have huse := hused.mpr hu
      obtain ⟨start, rank, mux, hitem, hmax, htuned⟩ := State.tunedFor_spec huse
      rw [State.evaluateUse_of_comes hc huse]
      exact ⟨start, rank, mux, hitem, hmax, State.comeIntoUse_tuner htuned, s.changeTuner_told x _ .use⟩
    case goes =>
      rw [State.evaluateUse_of_goes hc (Bool.eq_false_iff.mpr (mt hused.mp hn))]
      exact ⟨s.goOutOfUse_tuner x, s.changeTuner_told x _ .release⟩
    case same =>
      exact State.evaluateUse_of_same (h.trans ((not_congr hused.symm).trans (Bool.not_eq_true _).to_iff))
    case ends =>
      have hne : (s.tuner x).condition ≠ .unused := by rcases hc with hc | hc <;> simp [hc]
      rw [State.evaluateUse_of_goes hne (Bool.eq_false_iff.mpr (mt hused.mp hn))]
      exact State.goOutOfUse_ends hs (by rcases hc with hc | hc <;> rw [hc] <;> rfl)
    case retunes => exact State.arrive_ends hs hc (hused.mpr hu) hm
  case grace =>
    obtain ⟨_, hexec, hbecomes, rfl⟩ := event_becomes (act := fun s => s.completeGrace x) hr (State.graceDue_of_count hc hg hn)
    refine ⟨_, hexec, hbecomes.surrounds (s.completeGrace_shell x), ?_, fun hl => ?_, fun hl => ?_⟩
    · rw [State.settle_tuner, State.completeGrace_tuner_ne (otherTuner_ne x)]
    · rw [State.settle_tuner, State.settle_notices, State.completeGrace_of_high hl]
      exact ⟨s.changeTuner_still x .locked .grace, s.changeTuner_told x _ .grace⟩
    · rw [State.settle_tuner, State.settle_notices, State.completeGrace_of_low hl]
      exact ⟨s.setTuner_tuner_same x _, s.setTuner_notices x _⟩
  case loss =>
    obtain ⟨_, hexec, hbecomes, rfl⟩ := event_becomes (act := fun s => s.losesSignal x) hr (State.lossRuns_of_complete hc hl hn hdone)
    obtain ⟨_, hrecords⟩ := State.losesSignal_begins hs (hc.imp_right (·.1))
    refine ⟨_, hexec, hbecomes.surrounds (s.losesSignal_shell x), ?_, ?_, ?_, fun b hb hst hon hin => ?_, fun b hb hno => ?_⟩
    · rw [State.settle_tuner]
      exact s.changeTuner_tuner_ne x _ _ (otherTuner_ne x)
    · rw [State.settle_tuner]
      exact s.changeTuner_still x .lost .loss
    · rw [State.settle_tuner, State.settle_notices]
      exact s.changeTuner_told x _ .loss
    · exact ⟨_, (State.settle_booking _ _).trans ((hrecords b hb).1 ⟨hst, hon, hin⟩), rfl, rfl, rfl, rfl, hst⟩
    · rw [State.settle_booking]
      refine (hrecords b hb).2 ?_
      rintro ⟨hst, hon, _⟩
      exact hno.elim (fun h => h hst) fun h => h hon
  case regain =>
    obtain ⟨_, hexec, hbecomes, rfl⟩ := event_becomes (act := fun s => s.changeTuner x ((s.tuner x).still .locked) .regain) hr
      (State.regainDue_of_count hc hl hrun hn)
    have hends : (s.changeTuner x ((s.tuner x).still .locked) .regain).settle.gapsEndOn s x :=
      (State.changeTuner_ends hs x _ .regain (by rw [hc]; rfl) rfl).congr (State.settle_book _) (State.settle_orders _) rfl rfl
    refine ⟨_, hexec, hbecomes.surrounds (s.changeTuner_shell x _ _), ?_, ?_, ?_, fun b hb hst hon => hends.booking hb hst hon, hends⟩
    · rw [State.settle_tuner, State.changeTuner_tuner_ne s x _ _ (otherTuner_ne x)]
    · rw [State.settle_tuner, State.changeTuner_still]
    · rw [State.settle_tuner, State.settle_notices]
      exact s.changeTuner_told x _ .regain
  case rise =>
    obtain ⟨l, hset⟩ := s.setLockLine_eq x true
    obtain ⟨hshell, hlinks, hwake, hother⟩ := (s.setLines l).lockRises_rest x
    have hline : ((s.setLockLine x true).lockRises x).settle.lockLine x = true :=
      (State.lockLine_of_inputs ((State.settle_inputs _).trans (congrArg Lines.inputs
        (State.lines_of_outer (State.lockRises_outer _ x)))) x).trans (s.setLockLine_lockLine x true)
    refine ⟨_, exec_lockRise hr hl, hline, ?_⟩
    rw [hset]
    refine ⟨(State.settle_tuner _ _).trans hother, (State.settle_time _).trans (congrArg (·.1) hshell),
      (State.settle_catalogue _).trans (congrArg (·.2.1) hshell), (State.settle_guide _).trans (congrArg (·.2.2.1) hshell),
      (State.settle_links _).trans hlinks, (State.settle_wake _).trans hwake, ?_⟩
    rw [State.settle_tuner, State.settle_notices]
    by_cases hlocks : (s.tuner x).condition = .tuning ∧ (s.tuner x).grace = none
    · rw [State.lockRises_locks (s := s.setLines l) hlocks]
      obtain ⟨hc, hg⟩ := hlocks
      exact ⟨fun _ _ => ⟨(s.setLines l).setTuner_tuner_same x _, (s.setLines l).writeTuner_told x _ .grace⟩,
        fun hn => absurd ⟨hc, hg⟩ hn, fun _ hn => absurd hg hn, fun h => by simp [hc] at h, fun h => by simp [hc] at h,
        fun h => by simp [hc] at h⟩
    · rw [State.lockRises_counts (s := s.setLines l) hlocks, State.setTuner_tuner_same, State.setTuner_notices, State.setLines_tuner]
      exact ⟨fun hc hg => absurd ⟨hc, hg⟩ hlocks, fun _ => rfl, fun hc _ => by simp [Tuner.risen, hc], fun hc => by simp [Tuner.risen, hc],
        fun hc => by simp [Tuner.risen, hc], fun hc => by rcases hc with hc | hc <;> simp [Tuner.risen, hc]⟩
  case fall =>
    obtain ⟨l, hset⟩ := s.setLockLine_eq x false
    refine ⟨_, exec_lockFall hr hl, ?_, ?_⟩
    · exact (State.lockLine_of_inputs ((State.settle_inputs _).trans (congrArg Lines.inputs
        (State.lines_of_outer (State.lockFalls_outer _ x)))) x).trans (s.setLockLine_lockLine x false)
    · rw [hset, State.lockFalls_counts, State.setLines_tuner, State.settle_tuner, State.settle_tuner, State.settle_book,
        State.settle_orders, State.settle_notices, State.setTuner_tuner_same, State.setTuner_book, State.setTuner_orders,
        State.setTuner_notices, State.setTuner_tuner_ne _ (otherTuner_ne x)]
      refine ⟨rfl, rfl, rfl, rfl, fun hc => ?_, fun hc => ?_, fun hlocked hlost => ?_⟩
      · simp [Tuner.fallen, hc]
      · simp [Tuner.fallen, hc]
      · exact Tuner.fallen_of_other hlocked hlost

end
